-- ==== Sys2Proof/Word.lean ====
section
/-! DEFINITION. The bit words the part exchanges with its partners. -/

namespace Sys2Proof

/-- A byte of a command or reply frame (R168). -/
abbrev Byte := BitVec 8

/-- A 16-bit two's-complement microphone sample (R86). -/
abbrev Sample := BitVec 16

/-- One I2S frame: the left channel's sample, then the right channel's (R86). -/
abbrev StereoSample := Sample × Sample

/-- A rising edge of the microphone input's bit clock: the level of the word clock and the data bit there (R86). -/
structure BitClockEdge where
  wordClock : Bool
  bit : Bool
  deriving DecidableEq, Repr

/-- One of the 32 rows of a glyph mask; the leftmost pixel is the most significant bit (R169). -/
abbrev MaskRow := BitVec 32

end Sys2Proof
end

