-- ==== Sys2Proof/Syntax.lean ====
section
/-! DEFINITION. The commands of the part: one constructor for each row of spec/opcode_table.json, in the
table's order. -/

namespace Sys2Proof

/-- A source: the port a command comes from (00_scope.md, Sources and ports). -/
inductive Source where
  | player
  | panel1
  | panel2
  | panel3
  deriving DecidableEq, Repr

/-- A panel port (R157). -/
inductive Panel where
  | one
  | two
  | three
  deriving DecidableEq, Repr

/-- The source number of a panel port's records. -/
def Panel.source : Panel → Source
  | .one => .panel1
  | .two => .panel2
  | .three => .panel3

/-- The parameters of ADD as they arrive (R12, R169). The two flags are the bytes sent, since R12 refuses
a byte other than 0 or 1. -/
structure AddParams where
  song : Nat
  title : List Nat
  singer : Option Nat
  partner : Option Nat
  duet : Nat
  startKey : Int
  tempo : Nat
  wantsPriority : Nat
  deriving DecidableEq, Repr

/-- The parameters of GLYPH-LOAD as they arrive (R111). -/
structure GlyphParams where
  code : Nat
  advance : Nat
  maskWidth : Nat
  rows : List MaskRow
  deriving DecidableEq, Repr

/-- How many bytes a panel line's transmitter has sent (R162; entry 14). -/
structure SentBytes where
  panel : Panel
  count : Nat
  deriving DecidableEq, Repr

/-- The commands. `src` is the port a command came from; a command that a port may not send is refused by
the Port Interface (R163). -/
inductive Instr where
  /-- ADD (R12). -/
  | add (src : Source) (p : AddParams)
  /-- WITHDRAW (R17, R30). -/
  | withdraw (src : Source) (ticket : Nat)
  /-- HOLD (R18, R30). -/
  | hold (src : Source) (ticket : Nat)
  /-- RELEASE (R19, R30). -/
  | release (src : Source) (ticket : Nat)
  /-- RAISE (R20, R30). -/
  | raise (src : Source) (ticket : Nat)
  /-- LOWER (R20, R30). -/
  | lower (src : Source) (ticket : Nat)
  /-- SINGER-ADD (R22, R30). -/
  | singerAdd (src : Source) (name : List Nat)
  /-- SINGER-DROP (R23, R30). -/
  | singerDrop (src : Source) (number : Nat)
  /-- CLEAR-QUEUE (R21, R30). -/
  | clearQueue (src : Source)
  /-- UNCUE (R36). -/
  | uncue (src : Source)
  /-- TAKE-NEXT (R32). -/
  | takeNext (src : Source)
  /-- The end of an ADD's application (R13). -/
  | addApplied
  /-- The end of a WITHDRAW's application (R17). -/
  | withdrawApplied
  /-- The end of a HOLD's application (R18). -/
  | holdApplied
  /-- The end of a RELEASE's application (R19). -/
  | releaseApplied
  /-- The end of a RAISE's application (R20). -/
  | raiseApplied
  /-- The end of a LOWER's application (R20). -/
  | lowerApplied
  /-- The end of a CLEAR-QUEUE's application (R21). -/
  | clearQueueApplied
  /-- The end of a SINGER-ADD's application (R22). -/
  | singerAddApplied
  /-- The end of a SINGER-DROP's application (R23). -/
  | singerDropApplied
  /-- The end of an UNCUE's application (R36). -/
  | uncueApplied
  /-- The end of a TAKE-NEXT's application (R35). -/
  | takeNextApplied
  /-- The end of a START notice's application (R37). -/
  | startNoticeApplied
  /-- The end of a RETIRE notice's application (R38). -/
  | retireNoticeApplied
  /-- The end of a RESET notice's application (R39). -/
  | resetNoticeApplied
  /-- LIST (R24). -/
  | list (src : Source) (position count : Nat)
  /-- QUERY (R25). -/
  | query (src : Source) (ticket : Nat)
  /-- HISTORY (R26). -/
  | history (src : Source) (start count : Nat)
  /-- ROSTER, with its optional first number (R26). -/
  | roster (src : Source) (first : Option Nat)
  /-- LOAD-OPEN; the byte order is the byte sent (R52). -/
  | loadOpen (src : Source) (ticket count order : Nat)
  /-- LOAD-DATA; the bytes of its cue records (R53, R170). -/
  | loadData (src : Source) (bytes : List Byte)
  /-- The end of a LOAD-DATA's application (R57). -/
  | loadDataEnd
  /-- LOAD-CLOSE (R58). -/
  | loadClose (src : Source)
  /-- LOAD-ABORT (R59). -/
  | loadAbort (src : Source)
  /-- START (R67). -/
  | start (src : Source) (ticket offset : Nat)
  /-- The QM's START confirmation reaches the SC (R68). -/
  | startConfirmation
  /-- The QM's CUE-LOST answer reaches the SC (R69). -/
  | cueLostAnswer
  /-- PAUSE (R72). -/
  | pause (src : Source)
  /-- RESUME (R72). -/
  | resume (src : Source)
  /-- STOP (R78). -/
  | stop (src : Source)
  /-- SYNC (R73). -/
  | sync (src : Source) (time : Nat)
  /-- KEY (R75). -/
  | key (src : Source) (k : Int)
  /-- KEY-STEP (R75). -/
  | keyStep (src : Source) (direction : Int)
  /-- TEMPO (R76). -/
  | tempo (src : Source) (p : Nat)
  /-- SKIP-RESULT (R80). -/
  | skipResult (src : Source)
  /-- STAGE-RESET (R81). -/
  | stageReset (src : Source)
  /-- The QM's RESET confirmation reaches the SC (R82). -/
  | resetConfirmation
  /-- STATUS (R84). -/
  | status (src : Source)
  /-- One millisecond of the timebase (R70, R80). -/
  | timebaseMillisecond
  /-- The timebase millisecond that brings song time to the end time (R71). -/
  | songEnd
  /-- The QM's RETIRE confirmation reaches the SC (R79). -/
  | retireConfirmation
  /-- The timebase millisecond that brings the hold timer to 0 (R80). -/
  | holdTimerExpiry
  /-- The microphone input's bit clock runs for these rising edges, the 480th sample among them completing the analysis
  frame (R86, R91; entry 12). -/
  | analysisFrameCompletion (edges : List BitClockEdge)
  /-- GLYPH-LOAD (R111). -/
  | glyphLoad (src : Source) (p : GlyphParams)
  /-- LYRIC-STATUS (R132). -/
  | lyricStatus (src : Source)
  /-- IDLE-TEXT (R136). -/
  | idleText (src : Source) (text : List Nat)
  /-- ZONES (R152). -/
  | zones (src : Source) (ht hl hm : Nat)
  /-- VIDEO-STATUS (R156). -/
  | videoStatus (src : Source)
  /-- An input frame start; the pixel count of each line of the frame it closes (R147). -/
  | inputFrameStart (lines : List Nat)
  /-- The timebase millisecond that brings the loss timer to 0 (R149). -/
  | lossTimerExpiry
  /-- An output frame start of the internal timing (R149, R153). -/
  | outputFrameStart
  /-- A Player transaction, or a part of one: the whole bytes clocked in, the select byte first where a transaction
  begins, and whether chip select then rises, after the bits of an incomplete byte, or stays low (R158; entry 13). -/
  | playerWriteTransaction (mosi : List Byte) (rise : Option (List Bool))
  /-- A Player read transaction, or a part of one: how many whole bytes are clocked, after the select byte 0xC3 where it
  begins, and whether chip select then rises or stays low (R159; entry 13). -/
  | playerReadTransaction (clocked : Nat) (rise : Option (List Bool))
  /-- Bytes arrive on a panel line (R160, R161). -/
  | panelFrame (panel : Panel) (bytes : List Byte)
  /-- A break or a byte with a framing error on a panel line (R160). -/
  | panelLineBreak (panel : Panel)
  /-- A panel transmitter has sent this many more bytes, the check byte of its reply the last of them where it was reached
  (R162; entry 14). -/
  | panelReplyDelivery (bytes : SentBytes)
  /-- RIGHTS, with a mask to set or without one to read (R166). -/
  | rights (src : Source) (port : Nat) (mask : Option Byte)
  /-- EVENTS (R174). -/
  | events (src : Source)
  /-- MASK (R175). -/
  | mask (src : Source) (m : BitVec 16)
  /-- PROFILE-SET (R179). -/
  | profileSet (src : Source) (field : Nat) (value : Int)
  /-- PROFILE-GET (R179). -/
  | profileGet (src : Source) (field : Nat)
  /-- PROFILE-SAVE (R180). -/
  | profileSave (src : Source)
  /-- The end of a PROFILE-SAVE, with whether the comparison of step 4 matches (R180). -/
  | profileSaveEnd (matched : Bool)
  /-- The RESET pin is asserted or power comes up (R181). -/
  | hardwareReset
  /-- The end of reset (R181). -/
  | endOfReset
  deriving DecidableEq, Repr

end Sys2Proof
end

