-- ==== Sys2Proof/Decode.lean ====
section
/-! DEFINITION. Reading a command from a word. The rows of spec/opcode_table.json carry no bits: the part has
no instruction words, and its frames are read by the Port Interface (Machine/Ports.lean). -/

namespace Sys2Proof

/-- The command a word spells by the table's bits: none, since no row gives any (entry 7). -/
def decodeTableWord (_nbits _w : Nat) : Option Instr := none

end Sys2Proof
end

