-- ==== Sys2Proof/Config.lean ====
section
/-! DEFINITION. The part's fixed capacities, and the values the spec leaves open (no body: nothing can
evaluate them). -/

namespace Sys2Proof.Config

/-- Places of the request queue (R3). -/
def queuePlaces : Nat := 40

/-- Records of the history (R6). -/
def historyPlaces : Nat := 16

/-- Highest ticket; the ticket after it is 1 (R4). -/
def lastTicket : Nat := 999

/-- Votes at which a requester pair stops (R2). -/
def maxVotes : Nat := 15

/-- Highest song number (R1). -/
def maxSong : Nat := 999999

/-- Highest glyph code (00_scope.md, Text). -/
def maxGlyphCode : Nat := 1023

/-- Highest song time in milliseconds (00_scope.md, Quantities). -/
def maxTime : Nat := 1199999

/-- Record places of a cue slot (R44). -/
def slotPlaces : Nat := 6144

/-- The highest clamp count of a cue slot (R44). -/
def maxClamps : Nat := 12288

/-- Where the stopping counts of R66, R112 and R113 stop. -/
def countStop : Nat := 65535

/-- Samples of an analysis frame on one lane (R86). -/
def frameSamples : Nat := 480

/-- Notes a lane can grade in one song (R100). -/
def maxGraded : Nat := 6144

/-- Frames a lane can count in one song (R100). -/
def maxSongFrames : Nat := 131071

/-- Payload bytes of one reply (R168). -/
def maxPayload : Nat := 250

/-- Milliseconds the loss timer restarts with, and the longest input frame in range (R147, R148). -/
def lossTime : Nat := 80

/-- Advance of a missing glyph (R112). -/
def missingAdvance : Nat := 16

/-- What VIDEO-STATUS carries for a measured width or height of more than 65,535, in the two bytes the model gives it (entry
47): the spec states no result there (R156, R169). UNVERIFIED, a free value: entry 22. Safe. -/
opaque oversizeField : Nat → BitVec 16

/-- Whether the later of two overlay pixels that fall on the same place in different colours is the one
seen, by line and column: the spec orders only some of them. UNVERIFIED, a free value: entry 23. Safe. -/
opaque overlapWinner : Int → Int → Bool

/-- What a timebase millisecond does to the song clock where the remainder and the tempo sum to 200 or more, where R70's
single subtraction leaves the range R66 gives the remainder: `none` subtracts a second time, as the example of tempo 110
does, and `some r` moves song time by 1 and leaves r. UNVERIFIED, a free value: entry 44. Safe. -/
opaque tempoCarry : Nat → Option (Fin 100)

/-- The sample taken from a half of an I2S frame in which these fewer than 16 bits arrived: the spec gives every sample 16
(R86). UNVERIFIED, a free value: entry 48. Safe. -/
opaque shortSample : List Bool → BitVec 16

end Sys2Proof.Config
end

