-- ==== Sys2Proof/Machine/State.lean ====
section
/-! DEFINITION. The state of the part, block by block as 00_scope.md's block diagram names them, and the
values it holds at the end of a hardware reset. Plain data throughout. -/

namespace Sys2Proof.Machine

/-! ### Small named values -/

/-- A microphone lane: `zero` is the left channel, `one` the right (R86). -/
inductive Lane where
  | zero
  | one
  deriving DecidableEq, Repr

/-- The two things held once per lane. -/
structure PerLane (α : Type) where
  lane0 : α
  lane1 : α
  deriving DecidableEq, Repr

/-- One lane's part of a pair. -/
def PerLane.get {α : Type} (p : PerLane α) : Lane → α
  | .zero => p.lane0
  | .one => p.lane1

/-- The same function applied to each lane, with the lane's name. -/
def PerLane.map {α β : Type} (f : Lane → α → β) (p : PerLane α) : PerLane β :=
  ⟨f .zero p.lane0, f .one p.lane1⟩

/-- A cue slot's name (R44). -/
inductive SlotName where
  | a
  | b
  deriving DecidableEq, Repr

/-- The part tag of a line or note (3.2). -/
inductive PartTag where
  | p1
  | p2
  | both
  deriving DecidableEq, Repr

/-- SOLO or DUET (R92). -/
inductive SongMode where
  | solo
  | duet
  deriving DecidableEq, Repr

/-- The grade of a note (R100). -/
inductive Grade where
  | perfect
  | good
  | fair
  | miss
  deriving DecidableEq, Repr

/-! ### Reply frames and port records (chapters 9 and 10) -/

/-- The reply codes (R167). -/
inductive ReplyCode where
  | ok
  | empty
  | overrun
  | busy
  | unknown
  | notHere
  | badLength
  | badCheck
  | noRight
  | badValue
  | full
  | noTicket
  | notYours
  | wrongState
  | notReady
  | inPlay
  | cueLost
  | noLoad
  | saveFailed
  deriving DecidableEq, Repr

/-- The reply flags (R167). -/
structure ReplyFlags where
  gathered : Bool := false
  promoted : Bool := false
  demoted : Bool := false
  clamped : Bool := false
  noSinger : Bool := false
  deriving DecidableEq, Repr

/-- What an owner answers: the parts of a reply frame but for the echoed code (R167). -/
structure Answer where
  code : ReplyCode
  flags : ReplyFlags := {}
  payload : List Byte := []
  deriving DecidableEq, Repr

/-- A reply frame: the answer and the echoed command code (R168). -/
structure Reply where
  echo : Byte
  answer : Answer
  deriving DecidableEq, Repr

/-- The two places of a port record that hold replies (R157). -/
inductive Place where
  | reply
  | refusal
  deriving DecidableEq, Repr

/-- The condition of a port (R157); OUTSTANDING carries the code of the command in hand, which its reply
echoes (R167). -/
inductive Condition where
  | free
  | outstanding (code : Byte)
  | answered
  deriving DecidableEq, Repr

/-- A Player transaction in progress: what its select byte made it, and how far it has come (R157 to R159). -/
inductive Transaction where
  /-- Chip select is low and the select byte is not complete. -/
  | selecting
  /-- A write transaction with its frame bytes so far. -/
  | writing (taken : List Byte)
  /-- A read transaction with the place of the reply it chose and that reply's bytes left. -/
  | reading (place : Place) (left : List Byte)
  /-- A read transaction that found no reply waiting, or whose reply's last byte has been shifted out. -/
  | spent
  /-- A transaction with another select byte. -/
  | ignored (select : Byte)
  deriving DecidableEq, Repr

/-- A panel port's receiver (R160), with the bytes of the frame taken so far. -/
inductive Receiver where
  | hunting
  | code
  | length (code : Byte)
  | parameters (code : Byte) (len : Byte) (taken : List Byte) (left : Nat)
  | check (code : Byte) (len : Byte) (taken : List Byte)
  deriving DecidableEq, Repr

/-- A panel port's transmitter while it sends a reply: the place it sends and the bytes left (R162). -/
structure Transmission where
  place : Place
  left : List Byte
  deriving DecidableEq, Repr

/-- A port record (R157, R172). The Player port has no rights mask: its field is kept at all ones and
nothing reads it; its receiver is `PortInterface.transaction`, and the field here stays HUNTING (entry 43). `sent` is the
model's own record of the bytes the transmitter sent in the last PANEL_REPLY_DELIVERY (entry 37). -/
structure Port where
  condition : Condition
  replyPlace : Option Reply
  refusalPlace : Option Reply
  first : Option Place
  receiver : Receiver
  transmitter : Option Transmission
  rights : BitVec 4
  events : BitVec 12
  mask : BitVec 12
  sent : List Byte
  deriving DecidableEq, Repr

/-- The PI: the four port records, the Player port's receiver (a transaction in progress, or none: R157), and the bytes
shifted out after the select byte of the last Player transaction (the model's own record of MISO, entry 37). -/
structure PortInterface where
  player : Port
  panel1 : Port
  panel2 : Port
  panel3 : Port
  transaction : Option Transaction
  miso : List Byte
  deriving DecidableEq, Repr

/-! ### The Queue Manager (chapters 1 and 2) -/

/-- A requester pair (R2). -/
structure Requester where
  source : Source
  votes : Nat
  deriving DecidableEq, Repr

/-- The section of the queue an entry belongs to (R1). -/
inductive EntryClass where
  | priority
  | normal
  deriving DecidableEq, Repr

/-- The state of a queue entry (R1). -/
inductive EntryState where
  | waiting
  | held
  | cued
  | playing
  deriving DecidableEq, Repr

/-- A queue entry (R1). Its vote total is computed from its pairs (R2). -/
structure Entry where
  ticket : Nat
  song : Nat
  title : List Nat
  requesters : List Requester
  singer : Option Nat
  partner : Option Nat
  duet : Bool
  startKey : Int
  tempo : Nat
  cls : EntryClass
  state : EntryState
  holder : Option Source
  deriving DecidableEq, Repr

/-- A singer of the roster (R5). -/
structure Singer where
  name : List Nat
  owner : Source
  deriving DecidableEq, Repr

/-- How a song ended (R6). -/
inductive EndKind where
  | completed
  | stopped
  | aborted
  deriving DecidableEq, Repr

/-- How many notes got each grade (R92). -/
structure GradeCounts where
  perfect : Nat
  good : Nat
  fair : Nat
  miss : Nat
  deriving DecidableEq, Repr

/-- The finals of a lane (R104). -/
structure Finals where
  score : Option Nat
  graded : Nat
  counts : GradeCounts
  maxStreak : Nat
  deriving DecidableEq, Repr

/-- A history record (R6). -/
structure HistoryRecord where
  ticket : Nat
  song : Nat
  title : List Nat
  singerName : Option (List Nat)
  partnerName : Option (List Nat)
  duet : Bool
  endKind : EndKind
  timeReached : Nat
  lanes : PerLane Finals
  deriving DecidableEq, Repr

/-- The edits (R30), with their parameters as received. -/
inductive Edit where
  | add (p : AddParams)
  | withdraw (ticket : Nat)
  | hold (ticket : Nat)
  | release (ticket : Nat)
  | raise (ticket : Nat)
  | lower (ticket : Nat)
  | uncue
  | clearQueue
  | singerAdd (name : List Nat)
  | singerDrop (number : Nat)
  deriving DecidableEq, Repr

/-- An item of the edit backlog (R30). -/
structure BacklogItem where
  source : Source
  edit : Edit
  deriving DecidableEq, Repr

/-- The stage notices (R31). -/
inductive Notice where
  | start (ticket : Nat)
  | retire (kind : EndKind) (time : Nat) (lanes : PerLane Finals)
  | reset (time : Nat)
  deriving DecidableEq, Repr

/-- The QM's answers to the notices, on their way to the SC (R37 to R39). -/
inductive Confirmation where
  | start (key : Int) (tempo : Nat) (duet : Bool)
  | cueLost
  | retire
  | reset
  deriving DecidableEq, Repr

/-- A queue operation (R28). -/
inductive Operation where
  | edit (item : BacklogItem)
  | takeNext
  | notice (n : Notice)
  deriving DecidableEq, Repr

/-- The operation in flight, with the rights of its source and the promote threshold as they stood when it
was taken (R28, entry 16). -/
structure InFlight where
  op : Operation
  rights : BitVec 4
  threshold : Nat
  deriving DecidableEq, Repr

/-- The QM. `takeNext` is the waiting TAKE-NEXT with how many backlog edits, counted from the oldest, are
ahead of it (R32). -/
structure QueueManager where
  queue : List Entry
  history : List HistoryRecord
  roster : Vector (Option Singer) 16
  ticketCounter : Nat
  inFlight : Option InFlight
  backlog : List BacklogItem
  takeNext : Option Nat
  notices : List Notice
  toStage : List Confirmation
  deriving DecidableEq, Repr

/-! ### The Song Loader (chapter 3) -/

/-- The kinds of a MARK record (R50). -/
inductive MarkKind where
  | verse
  | chorus
  | bridge
  | interlude
  | finish
  deriving DecidableEq, Repr

/-- A cue record as a slot holds it, clamped (R47 to R50). -/
inductive CueRecord where
  | line (number start stop : Nat) (part : PartTag) (syllables : Nat)
  | syl (offset duration : Nat) (glyphs : List Nat)
  | note (start duration number : Nat) (part : PartTag)
  | mark (kind : MarkKind) (time : Nat)
  deriving DecidableEq, Repr

/-- Why a load failed (R60), in the order R169 numbers them. -/
inductive FailReason where
  | sylCount
  | lineOrder
  | timeRange
  | sylOrphan
  | sylRange
  | noteOrder
  | endEarly
  | noEnd
  | short
  | tooLong
  | extra
  | badRecord
  deriving DecidableEq, Repr

/-- The byte order of a load (R52). -/
inductive ByteOrder where
  | little
  | big
  deriving DecidableEq, Repr

/-- The note count and range of one part tag (R51). -/
structure PartIndex where
  count : Nat
  range : Option (Nat × Nat)
  deriving DecidableEq, Repr

/-- An entry of the line index (R51). -/
structure LineEntry where
  start : Nat
  stop : Nat
  position : Nat
  deriving DecidableEq, Repr

/-- The derived index (R51). The line count is the length of the line index; the clamp count stands in the
slot. -/
structure DerivedIndex where
  p1 : PartIndex
  p2 : PartIndex
  both : PartIndex
  endTime : Option Nat
  lines : List LineEntry
  deriving DecidableEq, Repr

/-- The load tracking (R54). -/
structure LoadTracking where
  lastLine : Nat
  lineStart : Nat
  lineStop : Nat
  expected : Nat
  lastSyllable : Option Nat
  lastNote : Option Nat
  noteEndP1 : Nat
  noteEndP2 : Nat
  latestLineEnd : Nat
  ended : Bool
  deriving DecidableEq, Repr

/-- What a LOADING slot holds (R44). The write position is the number of records. -/
structure Load where
  ticket : Nat
  records : List CueRecord
  remaining : Option Nat
  order : ByteOrder
  tracking : LoadTracking
  clamps : Nat
  index : DerivedIndex
  deriving DecidableEq, Repr

/-- What a LOADED or PLAYING slot holds (R44). -/
structure Song where
  ticket : Nat
  records : List CueRecord
  index : DerivedIndex
  clamps : Nat
  deriving DecidableEq, Repr

/-- What a FAILED slot holds (R44, R51). -/
structure FailedLoad where
  ticket : Nat
  records : List CueRecord
  clamps : Nat
  reason : FailReason
  deriving DecidableEq, Repr

/-- A cue slot in its state (R44); an EMPTY slot holds nothing. -/
inductive Slot where
  | empty
  | loading (l : Load)
  | loaded (g : Song)
  | failed (f : FailedLoad)
  | playing (g : Song)
  deriving DecidableEq, Repr

/-- The LOAD-DATA being applied: its slot and its records' bytes (R53). -/
structure LoadInFlight where
  slot : SlotName
  bytes : List Byte
  deriving DecidableEq, Repr

/-- The SL (R44, R53). -/
structure SongLoader where
  slotA : Slot
  slotB : Slot
  inFlight : Option LoadInFlight
  deriving DecidableEq, Repr

/-! ### The Stage Controller (chapter 4) -/

/-- The stage states (R66). -/
inductive StageState where
  | ready
  | starting
  | playing
  | paused
  | ending
  | result
  | resetting
  deriving DecidableEq, Repr

/-- The result hold timer, with the milliseconds left (R66). -/
inductive HoldTimer where
  | stopped
  | running (left : Nat)
  | suspended (left : Nat)
  deriving DecidableEq, Repr

/-- The state a failed START goes back to (R67). -/
inductive ReturnState where
  | ready
  | result
  deriving DecidableEq, Repr

/-- What a START in STARTING waits to begin (R66). -/
structure PendingStart where
  ticket : Nat
  offset : Nat
  back : ReturnState
  deriving DecidableEq, Repr

/-- The SC (R66). -/
structure StageController where
  stage : StageState
  songTime : Nat
  remainder : Nat
  key : Int
  tempo : Nat
  seekCount : Nat
  endTime : Option Nat
  hold : HoldTimer
  pendingStart : Option PendingStart
  deriving DecidableEq, Repr

/-! ### The Pitch Tracker and the Score Unit (chapter 5) -/

/-- A pitch report (R91); the sung pitch is present exactly when the frame is voiced. -/
structure PitchReport where
  level : Int
  clip : Bool
  pitch : Option Int
  key : Int
  deriving DecidableEq, Repr

/-- What the PT holds for one lane (R87, R176). -/
structure PitchLane where
  previous : List Sample
  newest : Option PitchReport
  armed : Bool
  deriving DecidableEq, Repr

/-- The receiver of the microphone input (R86): the word clock's level at the last rising edge of the bit clock (absent
before the first), whether an I2S frame has begun since reset, the bits so far of the sample being received, the most
significant first, and the left sample of the I2S frame being received. -/
structure I2sReceiver where
  wordClock : Option Bool
  begun : Bool
  bits : List Bool
  left : Option Sample
  deriving DecidableEq, Repr

/-- The PT (R87). The lanes share their frame boundaries (R86), so the samples of the frame in progress are
held as I2S frames and the latched key once. -/
structure PitchTracker where
  receiver : I2sReceiver
  inProgress : List StereoSample
  latchedKey : Int
  lanes : PerLane PitchLane
  deriving DecidableEq, Repr

/-- The note a lane is scoring (R92). -/
structure OpenNote where
  position : Nat
  start : Nat
  duration : Nat
  number : Nat
  part : PartTag
  frames : Nat
  hits : Nat
  deriving DecidableEq, Repr

/-- The scoring record of a lane (R92). -/
structure ScoreLane where
  openNote : Option OpenNote
  resumeTime : Option Nat
  hitSum : Nat
  frameCount : Nat
  graded : Nat
  counts : GradeCounts
  streak : Nat
  maxStreak : Nat
  recent : List (Nat × Grade)
  engaged : Bool
  deriving DecidableEq, Repr

/-- The SU (R92). -/
structure ScoreUnit where
  lanes : PerLane ScoreLane
  mode : SongMode
  guarded : Bool
  deriving DecidableEq, Repr

/-! ### The Lyric Renderer (chapter 6) -/

/-- A loaded glyph (R110). -/
structure Glyph where
  advance : Nat
  maskWidth : Nat
  rows : List MaskRow
  deriving DecidableEq, Repr

/-- A place of the glyph table that is loaded. -/
structure GlyphPlace where
  code : Nat
  glyph : Glyph
  deriving DecidableEq, Repr

/-- A glyph code laid out, with the advance it was laid out with (R113). -/
structure LaidGlyph where
  code : Nat
  advance : Nat
  deriving DecidableEq, Repr

/-- A syllable as a line's layout holds it (R113): the row of the line it stands in (0 or 1), its column,
its absolute start and its duration. -/
structure LaidSyllable where
  row : Nat
  x : Nat
  glyphs : List LaidGlyph
  start : Nat
  duration : Nat
  deriving DecidableEq, Repr

/-- A shown line (R113). -/
structure ShownLine where
  number : Nat
  rows : Nat
  part : PartTag
  spent : Bool
  layout : List LaidSyllable
  deriving DecidableEq, Repr

/-- A scroll in progress (R124). -/
structure Scroll where
  distance : Nat
  done : Nat
  frames : Nat
  deriving DecidableEq, Repr

/-- What the lyric zone shows (R113). -/
inductive DisplayMode where
  | empty
  | rows
  | card
  deriving DecidableEq, Repr

/-- A row of text laid out at a column. -/
structure TextRow where
  x : Nat
  glyphs : List LaidGlyph
  deriving DecidableEq, Repr

/-- The LR (R110, R112, R113). `holdOn` is the interlude hold as the last frame start found it (R132). -/
structure LyricRenderer where
  glyphs : List GlyphPlace
  missing : Nat
  mode : DisplayMode
  stack : List ShownLine
  waiting : List Nat
  nextLine : Nat
  scroll : Option Scroll
  pendingShift : Nat
  card : Option (List TextRow)
  overflow : Nat
  dropped : Nat
  holdOn : Bool
  deriving DecidableEq, Repr

/-! ### The Ticker Unit and the Meter Unit (chapter 7) -/

/-- The TU (R133). The cycle width is the sum of the advances. -/
structure TickerUnit where
  text : List Nat
  advances : List Nat
  offset : Nat
  builtCount : Nat
  mark : Bool
  idleText : List Nat
  deriving DecidableEq, Repr

/-- How a bar is coloured (R142). -/
inductive BarColour where
  | graded (g : Grade)
  | unsung (set : PartTag)
  deriving DecidableEq, Repr

/-- A bar of a band's bar list (R141): its columns, its note number and its colour. -/
structure Bar where
  left : Int
  right : Int
  number : Nat
  colour : BarColour
  deriving DecidableEq, Repr

/-- A sung marker (R143): its lane and the line of its pitch below the band's top. -/
structure Marker where
  lane : Lane
  line : Int
  deriving DecidableEq, Repr

/-- A band of the meter (R138): where it stands in the zone, its notes, its mapping, its bars and its
markers. -/
structure Band where
  top : Nat
  height : Nat
  notes : Option (Nat × Nat)
  step : Nat
  pad : Nat
  bars : List Bar
  markers : List Marker
  deriving DecidableEq, Repr

/-- The meter window state while it holds a picture (R138). -/
structure MeterWindow where
  bands : List Band
  nowColumn : Int
  textRows : List (List LaidGlyph)
  deriving DecidableEq, Repr

/-- The MU (R138): the window state, absent while shown is no. -/
structure MeterUnit where
  window : Option MeterWindow
  deriving DecidableEq, Repr

/-! ### The profile (chapter 11) -/

/-- A colour, one value 0..255 for each of red, green and blue (R155, R178). -/
structure Rgb where
  red : Nat
  green : Nat
  blue : Nat
  deriving DecidableEq, Repr

/-- A colour set (R127). -/
structure ColourSet where
  unsung : Rgb
  sung : Rgb
  outline : Rgb
  deriving DecidableEq, Repr

/-- The frame-latched fields (R153). -/
structure FrameSettings where
  rows : Nat
  rowGap : Nat
  margin : Nat
  scrollFrames : Nat
  ht : Nat
  hl : Nat
  hm : Nat
  setP1 : ColourSet
  setP2 : ColourSet
  setBoth : ColourSet
  perfect : Rgb
  good : Rgb
  fair : Rgb
  miss : Rgb
  background : Rgb
  tickerGlyph : Nat
  tickerBox : Nat
  lyricGlyph : Nat
  lyricBox : Nat
  meterGlyph : Nat
  meterBox : Nat
  deriving DecidableEq, Repr

/-- The live profile (R178); `staged` holds the frame-latched fields' staged values (R146). -/
structure Profile where
  tolerance : Nat
  fold : Bool
  voiceThreshold : Int
  lead : Nat
  tail : Nat
  staged : FrameSettings
  tickerCount : Nat
  tickerSpeed : Nat
  future : Nat
  promote : Nat
  syncWindow : Nat
  resultHold : Nat
  defaultRights : BitVec 4
  deriving DecidableEq, Repr

/-- The PS: the live profile, the nonvolatile copy (absent while its check value is invalid), the copy being
saved, and the profile-defaulted flag (R178, R180, R181). -/
structure ProfileStore where
  profile : Profile
  nonvolatile : Option Profile
  saving : Option Profile
  defaulted : Bool
  deriving DecidableEq, Repr

/-! ### The Video Compositor (chapter 8) -/

/-- LOCKED or LOST (R146). -/
inductive LockState where
  | locked
  | lost
  deriving DecidableEq, Repr

/-- The input frame being measured (R146, R147). -/
structure Measurement where
  elapsed : Nat
  lines : Nat
  firstLine : Nat
  uniform : Bool
  deriving DecidableEq, Repr

/-- The last measured size and whether it was in range (R146). -/
structure MeasuredSize where
  width : Nat
  height : Nat
  inRange : Bool
  deriving DecidableEq, Repr

/-- A glyph placed in the picture: the mask it is drawn with (the hollow box of R112 where absent), the
place of its top left pixel, and the column from which its pixels take the unsung colour (none: all are
sung). -/
structure DrawnGlyph where
  image : Option Glyph
  x : Int
  y : Int
  sungTo : Option Int
  deriving DecidableEq, Repr

/-- A run of text in one colour set, clipped to columns `x0` to `x1 - 1` and lines `y0` to `y1 - 1`. -/
structure DrawnText where
  glyphs : List DrawnGlyph
  set : ColourSet
  x0 : Int
  x1 : Int
  y0 : Int
  y1 : Int
  deriving DecidableEq, Repr

/-- A filled rectangle, columns `x0` to `x1 - 1` and lines `y0` to `y1 - 1`. -/
structure DrawnBox where
  x0 : Int
  x1 : Int
  y0 : Int
  y1 : Int
  colour : Rgb
  deriving DecidableEq, Repr

/-- What a unit drew in its zone, in layers: boxes of a later layer stand over those of an earlier one. -/
structure ZoneDrawing where
  layers : List (List DrawnBox)
  texts : List DrawnText
  deriving DecidableEq, Repr

/-- The overlay of one output frame (R153). -/
structure Picture where
  ticker : ZoneDrawing
  lyric : ZoneDrawing
  meter : ZoneDrawing
  deriving DecidableEq, Repr

/-- The VC (R146), with the overlay drawn at the last output frame start. -/
structure VideoCompositor where
  lock : LockState
  everLocked : Bool
  width : Nat
  height : Nat
  lossTimer : Option Nat
  measurement : Option Measurement
  lastMeasured : Option MeasuredSize
  internalTiming : Bool
  live : FrameSettings
  picture : Option Picture
  deriving DecidableEq, Repr

/-! ### The whole part -/

/-- The state of the part. `pending` is the model's queue of waiting commands; `inReset` is set between the
start and the end of a hardware reset (R181). -/
structure State where
  pending : List Instr
  inReset : Bool
  ports : PortInterface
  qm : QueueManager
  sl : SongLoader
  sc : StageController
  pt : PitchTracker
  su : ScoreUnit
  lr : LyricRenderer
  tu : TickerUnit
  mu : MeterUnit
  vc : VideoCompositor
  ps : ProfileStore
  deriving DecidableEq, Repr

/-- The reasons a step could stop with a fault. There is none: the spec gives the part no error state (a
refusal and a clamp are both ordinary outcomes, 00_scope.md), so nothing raises one. -/
inductive Fault where
  deriving DecidableEq, Repr

/-- The reasons a command could go without a meaning. -/
inductive Refusal where
  /-- Raised by an arm of `exec` for a row that has no meaning yet; safe (the model stops). No arm does. -/
  | notModelled (mnemonic : String)
  deriving DecidableEq, Repr

/-- What a meaning answers. -/
abbrev Result : Type := Host.Outcome State Fault Refusal

/-! ### Updates of one block -/

/-- The state with another queue of waiting commands. -/
def State.withPending (s : State) (q : List Instr) : State := { s with pending := q }

/-- The state with the reset flag set or cleared. -/
def State.withInReset (s : State) (b : Bool) : State := { s with inReset := b }

/-- The state with other port records. -/
def State.withPorts (s : State) (p : PortInterface) : State := { s with ports := p }

/-- The state with another QM record. -/
def State.withQm (s : State) (q : QueueManager) : State := { s with qm := q }

/-- The state with another SL record. -/
def State.withSl (s : State) (l : SongLoader) : State := { s with sl := l }

/-- The state with another SC record. -/
def State.withSc (s : State) (c : StageController) : State := { s with sc := c }

/-- The state with another PT record. -/
def State.withPt (s : State) (p : PitchTracker) : State := { s with pt := p }

/-- The state with another SU record. -/
def State.withSu (s : State) (u : ScoreUnit) : State := { s with su := u }

/-- The state with another LR record. -/
def State.withLr (s : State) (l : LyricRenderer) : State := { s with lr := l }

/-- The state with another TU record. -/
def State.withTu (s : State) (t : TickerUnit) : State := { s with tu := t }

/-- The state with another MU record. -/
def State.withMu (s : State) (m : MeterUnit) : State := { s with mu := m }

/-- The state with another VC record. -/
def State.withVc (s : State) (v : VideoCompositor) : State := { s with vc := v }

/-- The state with another PS record. -/
def State.withPs (s : State) (p : ProfileStore) : State := { s with ps := p }

/-! ### Hardware reset values -/

/-- The defaults of the frame-latched fields (R178). -/
def FrameSettings.defaults : FrameSettings where
  rows := 3
  rowGap := 8
  margin := 64
  scrollFrames := 6
  ht := 40
  hl := 176
  hm := 96
  setP1 := ⟨⟨255, 255, 255⟩, ⟨40, 120, 255⟩, ⟨0, 0, 0⟩⟩
  setP2 := ⟨⟨255, 255, 255⟩, ⟨255, 70, 140⟩, ⟨0, 0, 0⟩⟩
  setBoth := ⟨⟨255, 255, 255⟩, ⟨255, 200, 0⟩, ⟨0, 0, 0⟩⟩
  perfect := ⟨255, 215, 0⟩
  good := ⟨80, 220, 80⟩
  fair := ⟨80, 160, 255⟩
  miss := ⟨128, 128, 128⟩
  background := ⟨0, 0, 32⟩
  tickerGlyph := 16
  tickerBox := 8
  lyricGlyph := 16
  lyricBox := 0
  meterGlyph := 16
  meterBox := 8

/-- The defaults of the profile (R178). -/
def Profile.defaults : Profile where
  tolerance := 50
  fold := true
  voiceThreshold := -42
  lead := 2000
  tail := 400
  staged := FrameSettings.defaults
  tickerCount := 3
  tickerSpeed := 2
  future := 3000
  promote := 0
  syncWindow := 60
  resultHold := 8000
  defaultRights := 0b1000#4

/-- A port record after hardware reset (R157, R172, R177): PART-RESET alone in the event set. -/
def Port.afterReset (rights : BitVec 4) (mask : BitVec 12) : Port where
  condition := .free
  replyPlace := none
  refusalPlace := none
  first := none
  receiver := .hunting
  transmitter := none
  rights := rights
  events := 0x800#12
  mask := mask
  sent := []

/-- The port records after hardware reset: the panels' rights from the default panel rights (R165) and the
masks of R172's table. -/
def PortInterface.afterReset (rights : BitVec 4) : PortInterface where
  player := Port.afterReset 0b1111#4 0xFFF#12
  panel1 := Port.afterReset rights 0x839#12
  panel2 := Port.afterReset rights 0x839#12
  panel3 := Port.afterReset rights 0x839#12
  transaction := none
  miso := []

/-- The QM after hardware reset (R27, R30 to R32, R42). -/
def QueueManager.afterReset : QueueManager where
  queue := []
  history := []
  roster := Vector.replicate 16 none
  ticketCounter := 1
  inFlight := none
  backlog := []
  takeNext := none
  notices := []
  toStage := []

/-- The SL after hardware reset (R65). -/
def SongLoader.afterReset : SongLoader where
  slotA := .empty
  slotB := .empty
  inFlight := none

/-- The SC after hardware reset (R66, R85). -/
def StageController.afterReset : StageController where
  stage := .ready
  songTime := 0
  remainder := 0
  key := 0
  tempo := 100
  seekCount := 0
  endTime := none
  hold := .stopped
  pendingStart := none

/-- One lane of the PT after hardware reset: a previous frame of silence (R87), ARMED (R176). -/
def PitchLane.afterReset : PitchLane where
  previous := List.replicate 480 0#16
  newest := none
  armed := true

/-- The receiver of the microphone input after hardware reset: the first analysis frame begins with the first I2S frame
received (R86; entry 12). -/
def I2sReceiver.afterReset : I2sReceiver where
  wordClock := none
  begun := false
  bits := []
  left := none

/-- The PT after hardware reset (R87). -/
def PitchTracker.afterReset : PitchTracker where
  receiver := I2sReceiver.afterReset
  inProgress := []
  latchedKey := 0
  lanes := ⟨PitchLane.afterReset, PitchLane.afterReset⟩

/-- One lane's scoring record after hardware reset (R92). -/
def ScoreLane.afterReset : ScoreLane where
  openNote := none
  resumeTime := none
  hitSum := 0
  frameCount := 0
  graded := 0
  counts := ⟨0, 0, 0, 0⟩
  streak := 0
  maxStreak := 0
  recent := []
  engaged := false

/-- The SU after hardware reset (R92). -/
def ScoreUnit.afterReset : ScoreUnit where
  lanes := ⟨ScoreLane.afterReset, ScoreLane.afterReset⟩
  mode := .solo
  guarded := false

/-- The LR after hardware reset (R110, R112, R113). -/
def LyricRenderer.afterReset : LyricRenderer where
  glyphs := []
  missing := 0
  mode := .empty
  stack := []
  waiting := []
  nextLine := 1
  scroll := none
  pendingShift := 0
  card := none
  overflow := 0
  dropped := 0
  holdOn := false

/-- The TU after hardware reset: the built count is the profile's ticker count, the mark is set (R133). -/
def TickerUnit.afterReset (count : Nat) : TickerUnit where
  text := []
  advances := []
  offset := 0
  builtCount := count
  mark := true
  idleText := []

/-- The VC after hardware reset (R146, R150), its live settings the staged values (entry 9). -/
def VideoCompositor.afterReset (staged : FrameSettings) : VideoCompositor where
  lock := .lost
  everLocked := false
  width := 1280
  height := 720
  lossTimer := none
  measurement := none
  lastMeasured := none
  internalTiming := true
  live := staged
  picture := none

/-- The PS after a profile load: the nonvolatile copy where its check value is valid, the defaults
otherwise, with the profile-defaulted flag set (R181). -/
def ProfileStore.afterReset (nonvolatile : Option Profile) : ProfileStore where
  profile := nonvolatile.getD Profile.defaults
  nonvolatile := nonvolatile
  saving := none
  defaulted := nonvolatile.isNone

/-- The part at the end of a hardware reset that found this nonvolatile copy (R181). -/
def State.atEndOfReset (nonvolatile : Option Profile) : State where
  pending := []
  inReset := false
  ports := PortInterface.afterReset (nonvolatile.getD Profile.defaults).defaultRights
  qm := QueueManager.afterReset
  sl := SongLoader.afterReset
  sc := StageController.afterReset
  pt := PitchTracker.afterReset
  su := ScoreUnit.afterReset
  lr := LyricRenderer.afterReset
  tu := TickerUnit.afterReset (nonvolatile.getD Profile.defaults).tickerCount
  mu := ⟨none⟩
  vc := VideoCompositor.afterReset (nonvolatile.getD Profile.defaults).staged
  ps := ProfileStore.afterReset nonvolatile

/-- The machine right after reset: the end of a power-on whose nonvolatile copy was never saved (R181).
DESIGN CHOICE, unsafe: the spec does not say what the store holds; entry 8. -/
def State.reset : State := State.atEndOfReset none

end Sys2Proof.Machine
end

