-- ==== Sys2Proof/WellFormed.lean ====
section
/-! DEFINITION. Which commands a partner or a stream can send: the operands fit the bytes of the frame that
carries them (R163, R168, R169). What a well-formed command's values MEAN is checked by the block that
owns it. -/

namespace Sys2Proof

/-- A number that fits the given count of bytes (R169). -/
def fitsBytes (count n : Nat) : Bool := n < 256 ^ count

/-- A one-byte two's-complement value (R169). -/
def fitsSignedByte (k : Int) : Bool := -128 ≤ k && k ≤ 127

/-- A glyph text that fits: its count in one byte and each code in two (R169). -/
def fitsText (text : List Nat) : Bool := fitsBytes 1 text.length && text.all (fitsBytes 2)

/-- A roster number a command names: 0 is the encoding of absent, so a number given is 1..255 (R169). -/
def fitsRoster : Option Nat → Bool
  | none => true
  | some n => 0 < n && fitsBytes 1 n

/-- ADD's parameters are 10 + 2n bytes, at most 250 (R163, R169). -/
def AddParams.wellFormed (p : AddParams) : Bool :=
  fitsBytes 3 p.song && fitsText p.title && 10 + 2 * p.title.length ≤ 250 && fitsRoster p.singer
    && fitsRoster p.partner && fitsBytes 1 p.duet && fitsSignedByte p.startKey && fitsBytes 1 p.tempo
    && fitsBytes 1 p.wantsPriority

/-- GLYPH-LOAD's parameters: 32 rows of 4 bytes after three numbers (R111, R169). -/
def GlyphParams.wellFormed (p : GlyphParams) : Bool :=
  fitsBytes 2 p.code && fitsBytes 1 p.advance && fitsBytes 1 p.maskWidth && p.rows.length == 32

/-- LOAD-DATA's parameter lengths: 16, 32, ... 240 (R163). -/
def loadDataLength (n : Nat) : Bool := n % 16 == 0 && 16 ≤ n && n ≤ 240

/-- The bits of an incomplete byte are fewer than eight (R158). -/
def fitsRise : Option (List Bool) → Bool
  | none => true
  | some stray => stray.length < 8

/-- Well-formed commands. -/
def Instr.wellFormed : Instr → Bool
  | .add _ p => p.wellFormed
  | .withdraw _ t => fitsBytes 2 t
  | .hold _ t => fitsBytes 2 t
  | .release _ t => fitsBytes 2 t
  | .raise _ t => fitsBytes 2 t
  | .lower _ t => fitsBytes 2 t
  | .singerAdd _ name => fitsText name && 1 + 2 * name.length ≤ 250
  | .singerDrop _ n => fitsBytes 1 n
  | .clearQueue _ => true
  | .uncue _ => true
  | .takeNext _ => true
  | .addApplied => true
  | .withdrawApplied => true
  | .holdApplied => true
  | .releaseApplied => true
  | .raiseApplied => true
  | .lowerApplied => true
  | .clearQueueApplied => true
  | .singerAddApplied => true
  | .singerDropApplied => true
  | .uncueApplied => true
  | .takeNextApplied => true
  | .startNoticeApplied => true
  | .retireNoticeApplied => true
  | .resetNoticeApplied => true
  | .list _ p c => fitsBytes 1 p && fitsBytes 1 c
  | .query _ t => fitsBytes 2 t
  | .history _ st c => fitsBytes 1 st && fitsBytes 1 c
  | .roster _ first => first.all (fitsBytes 1)
  | .loadOpen _ t c o => fitsBytes 2 t && fitsBytes 2 c && fitsBytes 1 o
  | .loadData _ bytes => loadDataLength bytes.length
  | .loadDataEnd => true
  | .loadClose _ => true
  | .loadAbort _ => true
  | .start _ t o => fitsBytes 2 t && fitsBytes 3 o
  | .startConfirmation => true
  | .cueLostAnswer => true
  | .pause _ => true
  | .resume _ => true
  | .stop _ => true
  | .sync _ t => fitsBytes 3 t
  | .key _ k => fitsSignedByte k
  | .keyStep _ d => fitsSignedByte d
  | .tempo _ p => fitsBytes 1 p
  | .skipResult _ => true
  | .stageReset _ => true
  | .resetConfirmation => true
  | .status _ => true
  | .timebaseMillisecond => true
  | .songEnd => true
  | .retireConfirmation => true
  | .holdTimerExpiry => true
  | .analysisFrameCompletion _ => true
  | .glyphLoad _ p => p.wellFormed
  | .lyricStatus _ => true
  | .idleText _ text => fitsText text && 1 + 2 * text.length ≤ 250
  | .zones _ ht hl hm => fitsBytes 1 ht && fitsBytes 2 hl && fitsBytes 1 hm
  | .videoStatus _ => true
  | .inputFrameStart _ => true
  | .lossTimerExpiry => true
  | .outputFrameStart => true
  | .playerWriteTransaction _ rise => fitsRise rise
  | .playerReadTransaction _ rise => fitsRise rise
  | .panelFrame _ _ => true
  | .panelLineBreak _ => true
  | .panelReplyDelivery _ => true
  | .rights _ port _ => fitsBytes 1 port
  | .events _ => true
  | .mask _ _ => true
  | .profileSet _ field v => fitsBytes 1 field && -32768 ≤ v && v ≤ 32767
  | .profileGet _ field => fitsBytes 1 field
  | .profileSave _ => true
  | .profileSaveEnd _ => true
  | .hardwareReset => true
  | .endOfReset => true

end Sys2Proof
end

