-- ==== Sys2Proof/Machine/Flags.lean ====
section
/-! DEFINITION. The named values a partner sees: reply codes and flags, events, rights, the table of the
commands with their codes and ports. -/

namespace Sys2Proof.Machine

/-- The source number (00_scope.md, Sources and ports). -/
def sourceNumber : Source → Nat
  | .player => 0
  | .panel1 => 1
  | .panel2 => 2
  | .panel3 => 3

/-- The byte of a reply code (R167). -/
def ReplyCode.byte : ReplyCode → Byte
  | .ok => 0x00#8
  | .empty => 0x01#8
  | .overrun => 0x02#8
  | .busy => 0x10#8
  | .unknown => 0x11#8
  | .notHere => 0x12#8
  | .badLength => 0x13#8
  | .badCheck => 0x14#8
  | .noRight => 0x20#8
  | .badValue => 0x21#8
  | .full => 0x22#8
  | .noTicket => 0x23#8
  | .notYours => 0x24#8
  | .wrongState => 0x25#8
  | .notReady => 0x26#8
  | .inPlay => 0x27#8
  | .cueLost => 0x28#8
  | .noLoad => 0x29#8
  | .saveFailed => 0x2A#8

/-- The flags byte of a reply: bits 0 to 4, the rest 0 (R167). -/
def ReplyFlags.byte (f : ReplyFlags) : Byte :=
  BitVec.ofNat 8 (f.gathered.toNat + 2 * f.promoted.toNat + 4 * f.demoted.toNat + 8 * f.clamped.toNat
    + 16 * f.noSinger.toNat)

/-- The twelve events (R172). -/
inductive Event where
  | queueChanged
  | cueLost
  | loadDone
  | songStarted
  | songEnded
  | stageChanged
  | micClip (l : Lane)
  | videoLost
  | videoRegained
  | geometryClamped
  | partReset
  deriving DecidableEq, Repr

/-- The bit of an event in an event set (R169). -/
def Event.bit : Event → BitVec 12
  | .queueChanged => 0x001#12
  | .cueLost => 0x002#12
  | .loadDone => 0x004#12
  | .songStarted => 0x008#12
  | .songEnded => 0x010#12
  | .stageChanged => 0x020#12
  | .micClip .zero => 0x040#12
  | .micClip .one => 0x080#12
  | .videoLost => 0x100#12
  | .videoRegained => 0x200#12
  | .geometryClamped => 0x400#12
  | .partReset => 0x800#12

/-- The four rights of a panel port (R165), by their bit in the mask (R166). -/
inductive Right where
  | priority
  | cancelAny
  | raise
  | key
  deriving DecidableEq, Repr

/-- The bit of a right in a rights mask (R166). -/
def Right.bit : Right → Nat
  | .priority => 0
  | .cancelAny => 1
  | .raise => 2
  | .key => 3

/-- A rights mask holds a right (R165). -/
def rightsHold (mask : BitVec 4) (r : Right) : Bool := mask.getLsbD r.bit

/-- The commands of the availability table (R163, section 9.5). -/
inductive Command where
  | add
  | withdraw
  | hold
  | release
  | raise
  | lower
  | singerAdd
  | singerDrop
  | clearQueue
  | uncue
  | takeNext
  | list
  | query
  | history
  | roster
  | loadOpen
  | loadData
  | loadClose
  | loadAbort
  | start
  | pause
  | resume
  | stop
  | sync
  | key
  | keyStep
  | tempo
  | skipResult
  | stageReset
  | status
  | glyphLoad
  | lyricStatus
  | idleText
  | zones
  | videoStatus
  | rights
  | events
  | mask
  | profileSet
  | profileGet
  | profileSave
  deriving DecidableEq, Repr

/-- The code of a command (section 9.5). -/
def Command.code : Command → Byte
  | .add => 0x10#8
  | .withdraw => 0x11#8
  | .hold => 0x12#8
  | .release => 0x13#8
  | .raise => 0x14#8
  | .lower => 0x15#8
  | .singerAdd => 0x16#8
  | .singerDrop => 0x17#8
  | .clearQueue => 0x18#8
  | .uncue => 0x19#8
  | .takeNext => 0x1A#8
  | .list => 0x20#8
  | .query => 0x21#8
  | .history => 0x22#8
  | .roster => 0x23#8
  | .loadOpen => 0x30#8
  | .loadData => 0x31#8
  | .loadClose => 0x32#8
  | .loadAbort => 0x33#8
  | .start => 0x40#8
  | .pause => 0x41#8
  | .resume => 0x42#8
  | .stop => 0x43#8
  | .sync => 0x44#8
  | .key => 0x45#8
  | .keyStep => 0x46#8
  | .tempo => 0x47#8
  | .skipResult => 0x48#8
  | .stageReset => 0x49#8
  | .status => 0x4A#8
  | .glyphLoad => 0x50#8
  | .lyricStatus => 0x51#8
  | .idleText => 0x52#8
  | .zones => 0x53#8
  | .videoStatus => 0x54#8
  | .rights => 0x60#8
  | .events => 0x61#8
  | .mask => 0x62#8
  | .profileSet => 0x70#8
  | .profileGet => 0x71#8
  | .profileSave => 0x72#8

/-- Panels may send the command (section 9.5). -/
def Command.onPanels : Command → Bool
  | .add => true
  | .withdraw => true
  | .hold => true
  | .release => true
  | .raise => true
  | .lower => true
  | .singerAdd => true
  | .singerDrop => true
  | .clearQueue => false
  | .uncue => false
  | .takeNext => false
  | .list => true
  | .query => true
  | .history => true
  | .roster => true
  | .loadOpen => false
  | .loadData => false
  | .loadClose => false
  | .loadAbort => false
  | .start => false
  | .pause => false
  | .resume => false
  | .stop => false
  | .sync => false
  | .key => true
  | .keyStep => true
  | .tempo => false
  | .skipResult => false
  | .stageReset => false
  | .status => true
  | .glyphLoad => false
  | .lyricStatus => true
  | .idleText => false
  | .zones => false
  | .videoStatus => true
  | .rights => false
  | .events => true
  | .mask => true
  | .profileSet => false
  | .profileGet => true
  | .profileSave => false

/-- The forty-one commands, in the availability table's order (section 9.5). -/
def Command.all : List Command :=
  [.add, .withdraw, .hold, .release, .raise, .lower, .singerAdd, .singerDrop,
   .clearQueue, .uncue, .takeNext, .list, .query, .history, .roster, .loadOpen,
   .loadData, .loadClose, .loadAbort, .start, .pause, .resume, .stop, .sync,
   .key, .keyStep, .tempo, .skipResult, .stageReset, .status, .glyphLoad, .lyricStatus,
   .idleText, .zones, .videoStatus, .rights, .events, .mask, .profileSet, .profileGet,
   .profileSave]

/-- The command of a code byte, if the table lists the code (R163, step 3). -/
def Command.ofCode (code : Byte) : Option Command :=
  Command.all.find? (fun c => c.code == code)

/-- The table allows the command on this port (R163, step 4). -/
def Command.allowed (c : Command) (src : Source) : Bool := src == .player || c.onPanels

/-- The command code of an edit (section 9.5). -/
def Edit.command : Edit → Command
  | .add _ => .add
  | .withdraw _ => .withdraw
  | .hold _ => .hold
  | .release _ => .release
  | .raise _ => .raise
  | .lower _ => .lower
  | .uncue => .uncue
  | .clearQueue => .clearQueue
  | .singerAdd _ => .singerAdd
  | .singerDrop _ => .singerDrop

end Sys2Proof.Machine
end

