-- ==== Sys2Proof/Machine/Operands.lean ====
section
/-! DEFINITION. The fields of command parameters, reply payloads and cue records (R169, R170). Frames carry
values most significant byte first; cue records follow the byte order of their load. -/

namespace Sys2Proof.Machine

/-! ### Numbers as bytes -/

/-- A number in one byte. -/
def be1 (n : Nat) : List Byte := [BitVec.ofNat 8 n]

/-- A number in two bytes, most significant first (R169). -/
def be2 (n : Nat) : List Byte := [BitVec.ofNat 8 (n / 256), BitVec.ofNat 8 n]

/-- A number in three bytes, most significant first (R169). -/
def be3 (n : Nat) : List Byte := [BitVec.ofNat 8 (n / 65536), BitVec.ofNat 8 (n / 256), BitVec.ofNat 8 n]

/-- The number that bytes spell, most significant first. -/
def beValue (bytes : List Byte) : Nat := bytes.foldl (fun n b => 256 * n + b.toNat) 0

/-- The number in `count` bytes from place `at_` of a parameter list (R169); a missing byte counts as
none, which R163's length check rules out. -/
def paramAt (bytes : List Byte) (at_ count : Nat) : Nat := beValue ((bytes.drop at_).take count)

/-- The two's-complement number in one byte of a parameter list (R169). -/
def signedAt (bytes : List Byte) (at_ : Nat) : Int := (BitVec.ofNat 8 (paramAt bytes at_ 1)).toInt

/-- A glyph text: a count byte, then two bytes for each code (R169). -/
def textAt (bytes : List Byte) (at_ : Nat) : List Nat :=
  (List.range (paramAt bytes at_ 1)).map (fun j => paramAt bytes (at_ + 1 + 2 * j) 2)

/-- A roster number of a command: 0 for absent (R169). -/
def rosterNumberAt (bytes : List Byte) (at_ : Nat) : Option Nat :=
  if paramAt bytes at_ 1 = 0 then none else some (paramAt bytes at_ 1)

/-! ### Fields of reply payloads (R169) -/

/-- A ticket, 0 for absent. -/
def encTicket (t : Option Nat) : List Byte := be2 (t.getD 0)

/-- A roster number, 0 for absent. -/
def encRoster (n : Option Nat) : List Byte := be1 (n.getD 0)

/-- A source, 0xFF for absent. -/
def encSource : Option Source → List Byte
  | some s => be1 (sourceNumber s)
  | none => [0xFF#8]

/-- A song time. -/
def encTime (t : Nat) : List Byte := be3 t

/-- A key or direction: two's complement in one byte. -/
def encSigned (k : Int) : List Byte := [BitVec.ofInt 8 k]

/-- A profile value: two's complement in two bytes. -/
def encProfileValue (v : Int) : List Byte := be2 (BitVec.ofInt 16 v).toNat

/-- A score, 0xFFFF for absent. -/
def encScore (s : Option Nat) : List Byte := be2 (s.getD 0xFFFF)

/-- A remaining count, 0xFFFF for open-ended. -/
def encRemaining (n : Option Nat) : List Byte := be2 (n.getD 0xFFFF)

/-- A glyph text. -/
def encText (text : List Nat) : List Byte := be1 text.length ++ text.flatMap be2

/-- A glyph text that may be absent: then a count byte of 0. -/
def encTextOption (text : Option (List Nat)) : List Byte := encText (text.getD [])

/-- Yes or no, on or off, set or clear. -/
def encBool (b : Bool) : List Byte := be1 b.toNat

/-- An entry class, in R1's order. -/
def encClass : EntryClass → List Byte
  | .priority => be1 0
  | .normal => be1 1

/-- An entry state, in R1's order. -/
def encEntryState : EntryState → List Byte
  | .waiting => be1 0
  | .held => be1 1
  | .cued => be1 2
  | .playing => be1 3

/-- An end kind, in R6's order. -/
def encEndKind : EndKind → List Byte
  | .completed => be1 0
  | .stopped => be1 1
  | .aborted => be1 2

/-- A slot letter: A is 0 and B is 1. -/
def encSlotName : SlotName → List Byte
  | .a => be1 0
  | .b => be1 1

/-- A slot state, in R44's order (R171). -/
def encSlotState : Slot → List Byte
  | .empty => be1 0
  | .loading _ => be1 1
  | .loaded _ => be1 2
  | .failed _ => be1 3
  | .playing _ => be1 4

/-- The number of a fail reason (R169). -/
def FailReason.number : FailReason → Nat
  | .sylCount => 0
  | .lineOrder => 1
  | .timeRange => 2
  | .sylOrphan => 3
  | .sylRange => 4
  | .noteOrder => 5
  | .endEarly => 6
  | .noEnd => 7
  | .short => 8
  | .tooLong => 9
  | .extra => 10
  | .badRecord => 11

/-- A fail reason, 0xFF for absent (a named value's absence, R169). -/
def encFailReason : Option FailReason → List Byte
  | some r => be1 r.number
  | none => [0xFF#8]

/-- A stage state (R171). -/
def encStageState : StageState → List Byte
  | .ready => be1 0
  | .starting => be1 1
  | .playing => be1 2
  | .paused => be1 3
  | .ending => be1 4
  | .result => be1 5
  | .resetting => be1 6

/-- A display mode, in R113's order. -/
def encDisplayMode : DisplayMode → List Byte
  | .empty => be1 0
  | .rows => be1 1
  | .card => be1 2

/-- A lock state, in R146's order. -/
def encLockState : LockState → List Byte
  | .locked => be1 0
  | .lost => be1 1

/-- An event set or mask: 2 bytes, bits 12 to 15 sent as 0 (R169). -/
def encEvents (e : BitVec 12) : List Byte := be2 e.toNat

/-- A rights mask: one byte (R166). -/
def encRights (r : BitVec 4) : List Byte := be1 r.toNat

/-- A measured width or height in VIDEO-STATUS (R156). DESIGN CHOICE, entry 47: two bytes, since the spec gives it no range
that would fix them. A number beyond two bytes is a free value, entry 22. -/
def encMeasured (n : Nat) : List Byte :=
  if n < 65536 then be2 n else be2 (Config.oversizeField n).toNat

/-! ### Clamping -/

/-- A whole number brought into a range (00_scope.md, Refused and clamped). -/
def clampInt (lo hi v : Int) : Int := max lo (min hi v)

/-- A number brought into a range. -/
def clampNat (lo hi v : Nat) : Nat := max lo (min hi v)

/-- A count that stops at 65,535 (R66, R112, R113). -/
def stopCount (n : Nat) : Nat := min Config.countStop n

/-! ### Cue records (R170) -/

/-- A multi-byte field of a cue record, in the load's byte order (R54, R170). -/
def recordField (order : ByteOrder) (raw : List Byte) (at_ count : Nat) : Nat :=
  match order with
  | .big => beValue ((raw.drop at_).take count)
  | .little => beValue ((raw.drop at_).take count).reverse

/-- A cue record as decoded, before clamping (R54 step 1). -/
inductive RawRecord where
  | line (number start stop : Nat) (part : PartTag) (syllables : Nat)
  | syl (offset duration count : Nat) (codes : List Nat)
  | note (start duration number : Nat) (part : PartTag)
  | mark (kind : MarkKind) (time : Nat)
  deriving DecidableEq, Repr

/-- Part tags are 1 P1, 2 P2, 3 BOTH (R170). -/
def partTagOf : Nat → Option PartTag
  | 1 => some .p1
  | 2 => some .p2
  | 3 => some .both
  | _ => none

/-- Mark kinds are 1 VERSE, 2 CHORUS, 3 BRIDGE, 4 INTERLUDE, 5 END (R170). -/
def markKindOf : Nat → Option MarkKind
  | 1 => some .verse
  | 2 => some .chorus
  | 3 => some .bridge
  | 4 => some .interlude
  | 5 => some .finish
  | _ => none

/-- The record that 16 bytes hold, or none where its kind, part tag or mark kind is not one the layout
defines (R54, R170). Glyph codes are the low 10 bits of their fields. -/
def decodeRecord (order : ByteOrder) (raw : List Byte) : Option RawRecord :=
  match beValue (raw.take 1) with
  | 1 =>
    (partTagOf (recordField order raw 9 1)).map fun part =>
      .line (recordField order raw 1 2) (recordField order raw 3 3) (recordField order raw 6 3) part
        (recordField order raw 10 1)
  | 2 =>
    some (.syl (recordField order raw 1 2) (recordField order raw 3 2) (recordField order raw 5 1)
      ((List.range 5).map fun j => recordField order raw (6 + 2 * j) 2 % 1024))
  | 3 =>
    (partTagOf (recordField order raw 7 1)).map fun part =>
      .note (recordField order raw 1 3) (recordField order raw 4 2) (recordField order raw 6 1) part
  | 4 =>
    (markKindOf (recordField order raw 1 1)).map fun kind => .mark kind (recordField order raw 2 3)
  | _ => none

end Sys2Proof.Machine
end

