-- ==== Sys2Proof/Machine/Ops.lean ====
section
/-! DEFINITION. The shared operations: reply frames and the two places of a port, refusing and routing a
command, raising events, and the cue slots as other blocks see them. -/

namespace Sys2Proof.Machine

/-! ### Frames -/

/-- One bit of the CRC-8 with generator x^8 + x^2 + x + 1 (R161). -/
def crcBit (r : Byte) : Byte := if r.msb then (r <<< 1) ^^^ 0x07#8 else r <<< 1

/-- One byte of the CRC-8, taken most significant bit first (R161). -/
def crcByte (r b : Byte) : Byte :=
  crcBit (crcBit (crcBit (crcBit (crcBit (crcBit (crcBit (crcBit (r ^^^ b))))))))

/-- The CRC-8 of a frame's bytes (R161). -/
def crc8 (bytes : List Byte) : Byte := bytes.foldl crcByte 0x00#8

/-- The bytes of a reply frame (R168); the flags are 0 unless the code is OK (R167). -/
def Reply.bytes (r : Reply) : List Byte :=
  [r.answer.code.byte, r.echo, if r.answer.code = .ok then r.answer.flags.byte else 0x00#8,
    BitVec.ofNat 8 r.answer.payload.length] ++ r.answer.payload

/-- A frame as it travels on a panel line: the marker, the frame and its check byte (R162). -/
def panelWire (frame : List Byte) : List Byte := 0xA5#8 :: frame ++ [crc8 frame]

/-! ### The places of a port (R157) -/

/-- What a place of a port holds. -/
def Port.place (p : Port) : Place → Option Reply
  | .reply => p.replyPlace
  | .refusal => p.refusalPlace

/-- A port with one of its places changed. -/
def Port.setPlace (p : Port) (pl : Place) (r : Option Reply) : Port :=
  match pl with
  | .reply => { p with replyPlace := r }
  | .refusal => { p with refusalPlace := r }

/-- The other place. -/
def Place.other : Place → Place
  | .reply => .refusal
  | .refusal => .reply

/-- A reply enters a place; the place filled first stands first in delivery order (R157). -/
def Port.fill (p : Port) (pl : Place) (r : Reply) : Port :=
  { p.setPlace pl (some r) with first := some (p.first.getD pl) }

/-- An idle transmitter begins the waiting reply that stands first in delivery order (R162). -/
def Port.beginSending (p : Port) : Port :=
  match p.transmitter, p.first with
  | none, some pl =>
    match p.place pl with
    | some r => { p with transmitter := some ⟨pl, panelWire r.bytes⟩ }
    | none => p
  | _, _ => p

/-- A place's reply is delivered: the place is empty, the other place's reply, if any, stands first, and
after the routed command's reply the port is FREE (R159, R162). -/
def Port.deliver (p : Port) (pl : Place) : Port :=
  { p.setPlace pl none with
    first := if (p.place pl.other).isSome then some pl.other else none
    condition := if pl = .reply then .free else p.condition }

/-- A port is busy while OUTSTANDING or ANSWERED (R157). -/
def Port.busy (p : Port) : Bool := p.condition != .free

/-- A port's attention line, outside reset: its set and its mask share an event (R173). -/
def Port.attention (p : Port) : Bool := p.events &&& p.mask != 0#12

/-- The port record of a source. -/
def PortInterface.get (pi : PortInterface) : Source → Port
  | .player => pi.player
  | .panel1 => pi.panel1
  | .panel2 => pi.panel2
  | .panel3 => pi.panel3

/-- The port records with one changed. -/
def PortInterface.modify (pi : PortInterface) (src : Source) (f : Port → Port) : PortInterface :=
  match src with
  | .player => { pi with player := f pi.player }
  | .panel1 => { pi with panel1 := f pi.panel1 }
  | .panel2 => { pi with panel2 := f pi.panel2 }
  | .panel3 => { pi with panel3 := f pi.panel3 }

/-- The port record of a source. -/
def State.port (s : State) (src : Source) : Port := s.ports.get src

/-- The state with one port record changed. -/
def State.modifyPort (s : State) (src : Source) (f : Port → Port) : State :=
  s.withPorts (s.ports.modify src f)

/-- A reply enters a place of a port; a panel's idle transmitter begins at once (R157, R162). -/
def State.put (s : State) (src : Source) (pl : Place) (r : Reply) : State :=
  s.modifyPort src fun p => if src = .player then p.fill pl r else (p.fill pl r).beginSending

/-- An owner answers a port's command: the reply enters the reply place and the port is ANSWERED (R164). -/
def State.answer (s : State) (src : Source) (c : Command) (a : Answer) : State :=
  (s.modifyPort src fun p => { p with condition := .answered }).put src .reply ⟨c.code, a⟩

/-- A port refusal: no payload, the received code echoed, discarded when the refusal place is taken
(R163). -/
def State.refuse (s : State) (src : Source) (code : Byte) (why : ReplyCode) : State :=
  if (s.port src).refusalPlace.isSome then s
  else s.put src .refusal ⟨code, { code := why }⟩

/-- A command is routed: its port is OUTSTANDING (R164). -/
def State.route (s : State) (src : Source) (c : Command) : State :=
  s.modifyPort src fun p => { p with condition := .outstanding c.code }

/-- A command at its port (R163, R164; entry 1): during reset the ports receive nothing (R181); then the
busy, port and length checks; a command that passes is routed and handed to its owner in the same moment. -/
def State.command (s : State) (src : Source) (c : Command) (lengthOk : Bool) (owner : State → State) : State :=
  if s.inReset then s
  else if (s.port src).busy then s.refuse src c.code .busy
  else if c.allowed src then
    if lengthOk then owner (s.route src c) else s.refuse src c.code .badLength
  else s.refuse src c.code .notHere

/-- A step that changes nothing while the part is in reset (R181). -/
def State.outsideReset (s : State) (f : State → State) : State := if s.inReset then s else f s

/-! ### Plain answers -/

/-- OK with a payload and flags. -/
def okWith (payload : List Byte) (flags : ReplyFlags := {}) : Answer := ⟨.ok, flags, payload⟩

/-- A refusal by an owner: its code and no payload (R167). -/
def refusedWith (code : ReplyCode) : Answer := ⟨code, {}, []⟩

/-! ### Events (chapter 10) -/

/-- An event joins a port's set (R172). -/
def Port.raise (p : Port) (e : Event) : Port := { p with events := p.events ||| e.bit }

/-- An event is raised in every port's set (R172). -/
def State.raiseAll (s : State) (e : Event) : State :=
  s.withPorts
    { s.ports with
      player := s.ports.player.raise e
      panel1 := s.ports.panel1.raise e
      panel2 := s.ports.panel2.raise e
      panel3 := s.ports.panel3.raise e }

/-- An event is raised in the Player's set (R172). -/
def State.raisePlayer (s : State) (e : Event) : State := s.modifyPort .player fun p => p.raise e

/-- The attention line of a port: low while the RESET pin is asserted (R173). -/
def State.attention (s : State) (src : Source) : Bool := !s.inReset && (s.port src).attention

/-- The REPLY-READY line: high while either place of the Player port holds a reply (R159). -/
def State.replyReady (s : State) : Bool :=
  s.ports.player.replyPlace.isSome || s.ports.player.refusalPlace.isSome

/-- The rights of a source: the Player holds every right (R165). -/
def State.rightsOf (s : State) (src : Source) : BitVec 4 :=
  if src = .player then 0b1111#4 else (s.port src).rights

/-- The ticker is marked for rebuild (R135). -/
def State.markTicker (s : State) : State := s.withTu { s.tu with mark := true }

/-- QUEUE-CHANGED is raised in every port's set, and the QM tells the TU (R10, R135). -/
def State.queueChanged (s : State) : State := (s.raiseAll .queueChanged).markTicker

/-! ### The cue slots as other blocks see them (R44, R46) -/

/-- The ticket a slot carries (R44). -/
def Slot.ticket : Slot → Option Nat
  | .empty => none
  | .loading l => some l.ticket
  | .loaded g => some g.ticket
  | .failed f => some f.ticket
  | .playing g => some g.ticket

/-- A slot by its name. -/
def SongLoader.get (sl : SongLoader) : SlotName → Slot
  | .a => sl.slotA
  | .b => sl.slotB

/-- The SL with a slot changed. -/
def SongLoader.set (sl : SongLoader) (n : SlotName) (c : Slot) : SongLoader :=
  match n with
  | .a => { sl with slotA := c }
  | .b => { sl with slotB := c }

/-- The slot carrying a ticket (R46). -/
def SongLoader.carrying (sl : SongLoader) (ticket : Nat) : Option SlotName :=
  if sl.slotA.ticket = some ticket then some .a
  else if sl.slotB.ticket = some ticket then some .b
  else none

/-- The song a slot plays, if it is PLAYING. -/
def Slot.playingSong : Slot → Option Song
  | .playing g => some g
  | _ => none

/-- The load of a LOADING slot. -/
def Slot.load : Slot → Option Load
  | .loading l => some l
  | _ => none

/-- The song of the PLAYING slot, which the show reads (R45). -/
def SongLoader.playingSong (sl : SongLoader) : Option Song := sl.slotA.playingSong.or sl.slotB.playingSong

/-- The LOADING slot (R53). -/
def SongLoader.loadingSlot (sl : SongLoader) : Option (SlotName × Load) :=
  match sl.slotA.load, sl.slotB.load with
  | some l, _ => some (.a, l)
  | none, some l => some (.b, l)
  | none, none => none

/-- The SL empties the slots a test picks. -/
def SongLoader.dropWhere (sl : SongLoader) (test : Slot → Bool) : SongLoader :=
  { sl with
    slotA := if test sl.slotA then .empty else sl.slotA
    slotB := if test sl.slotB then .empty else sl.slotB }

/-- The LOAD-DATA in flight is at a slot the test picks. -/
def SongLoader.loadCut (sl : SongLoader) (test : Slot → Bool) : Bool :=
  match sl.inFlight with
  | some f => test (sl.get f.slot)
  | none => false

/-- A queue operation takes slots to EMPTY; a LOAD-DATA in flight at one of them is abandoned and answered
CUE-LOST, with no payload (R40, R62). -/
def State.dropSlots (s : State) (test : Slot → Bool) : State :=
  if s.sl.loadCut test then
    (s.withSl { s.sl.dropWhere test with inFlight := none }).answer .player .loadData (refusedWith .cueLost)
  else s.withSl (s.sl.dropWhere test)

/-- The slot carries this ticket. -/
def carriesTicket (ticket : Nat) (c : Slot) : Bool := c.ticket = some ticket

/-- The slot is PLAYING. -/
def Slot.isPlaying (c : Slot) : Bool := c.playingSong.isSome

end Sys2Proof.Machine
end

