-- ==== Sys2Proof/Machine/Queue.lean ====
section
/-! DEFINITION. What each edit, TAKE-NEXT and each stage notice does to the QM's records once it is applied
(chapters 1 and 2). -/

namespace Sys2Proof.Machine

/-! ### Entries and sections -/

/-- The vote total: the sum of the votes of the pairs (R2). -/
def Entry.voteTotal (e : Entry) : Nat := (e.requesters.map (fun r => r.votes)).sum

/-- The entry is PLAYING or CUED: it stands ahead of both waiting sections (R3). -/
def Entry.onStage (e : Entry) : Bool := e.state == .playing || e.state == .cued

/-- The entry is WAITING or HELD (R3). -/
def Entry.waits (e : Entry) : Bool := e.state == .waiting || e.state == .held

/-- The entry stands ahead of the normal section (R3). -/
def Entry.aheadOfNormal (e : Entry) : Bool := e.onStage || e.cls == .priority

/-- The source has a pair in the entry (R2). -/
def Entry.hasPair (e : Entry) (src : Source) : Bool := e.requesters.any (fun r => r.source == src)

/-- An entry joins the head of the priority section (R3). -/
def joinPriorityHead (q : List Entry) (e : Entry) : List Entry :=
  q.takeWhile Entry.onStage ++ e :: q.dropWhile Entry.onStage

/-- An entry joins the tail of the priority section, which is also the place of the head of the normal
section (R3). -/
def joinPriorityTail (q : List Entry) (e : Entry) : List Entry :=
  q.takeWhile Entry.aheadOfNormal ++ e :: q.dropWhile Entry.aheadOfNormal

/-- An entry joins the tail of the normal section (R3). -/
def joinNormalTail (q : List Entry) (e : Entry) : List Entry := q ++ [e]

/-- The entry with a ticket. -/
def findTicket (q : List Entry) (ticket : Nat) : Option Entry := q.find? (fun e => e.ticket == ticket)

/-- The position of the entry with a ticket: its place in the list (R3). -/
def positionOf (q : List Entry) (ticket : Nat) : Nat := q.findIdx (fun e => e.ticket == ticket)

/-- The queue without the entry with a ticket; those behind it move up (R3). -/
def removeTicket (q : List Entry) (ticket : Nat) : List Entry := q.filter (fun e => e.ticket != ticket)

/-- The queue with the entry with a ticket changed in its place. -/
def updateTicket (q : List Entry) (ticket : Nat) (f : Entry → Entry) : List Entry :=
  q.map (fun e => if e.ticket = ticket then f e else e)

/-- The CUED entry (R3). -/
def cuedEntry (q : List Entry) : Option Entry := q.find? (fun e => e.state == .cued)

/-- The PLAYING entry (R3). -/
def playingEntry (q : List Entry) : Option Entry := q.find? (fun e => e.state == .playing)

/-- The candidate: the first WAITING entry in queue order (R33). -/
def candidate (q : List Entry) : Option Entry := q.find? (fun e => e.state == .waiting)

/-- The WAITING or HELD entry of a song (R13). -/
def waitingSong (q : List Entry) (song : Nat) : Option Entry := q.find? (fun e => e.waits && e.song == song)

/-! ### Tickets (R4) -/

/-- The number after a ticket: 1 after 999. -/
def nextTicket (t : Nat) : Nat := if Config.lastTicket ≤ t then 1 else t + 1

/-- A ticket is live while a queue entry or a history record carries it. -/
def QueueManager.live (q : QueueManager) (t : Nat) : Bool :=
  q.queue.any (fun e => e.ticket == t) || q.history.any (fun h => h.ticket == t)

/-- The first candidate that is not live, trying at most the given count of numbers. -/
def freeTicket (live : Nat → Bool) : Nat → Nat → Nat
  | 0, t => t
  | n + 1, t => if live t then freeTicket live n (nextTicket t) else t

/-- The ticket the next new entry gets. -/
def QueueManager.newTicket (q : QueueManager) : Nat := freeTicket q.live Config.lastTicket q.ticketCounter

/-! ### The roster (R5) -/

/-- The singer of a roster place, by its number 1..16. -/
def QueueManager.singerAt (q : QueueManager) (n : Nat) : Option Singer :=
  if n = 0 then none else (q.roster[n - 1]?).join

/-- A roster number that holds a singer is kept, any other becomes absent (R16). -/
def QueueManager.knownSinger (q : QueueManager) (n : Option Nat) : Option Nat :=
  n.filter (fun k => (q.singerAt k).isSome)

/-- A number was named and is not known: the reply carries NO-SINGER (R16). -/
def QueueManager.unknownSinger (q : QueueManager) (n : Option Nat) : Bool :=
  n.isSome && (q.knownSinger n).isNone

/-- The number of the place a test picks first (R22). -/
def QueueManager.placeWhere (q : QueueManager) (test : Option Singer → Bool) : Option Nat :=
  (q.roster.toList.findIdx? test).map (fun i => i + 1)

/-- The QM with a roster place changed, by its number. -/
def QueueManager.setSinger (q : QueueManager) (n : Nat) (r : Option Singer) : QueueManager :=
  { q with roster := q.roster.setIfInBounds (n - 1) r }

/-- The name the roster holds at an entry's singer number (R7). -/
def QueueManager.nameAt (q : QueueManager) (n : Option Nat) : Option (List Nat) :=
  n.bind (fun k => (q.singerAt k).map (fun r => r.name))

/-! ### Outcomes -/

/-- What an edit does to the cue slots at its end (R40): nothing, or every slot carrying a ticket is dropped,
with CUE-LOST raised for the Player (a removal, R8) or without (an UNCUE, R36). -/
inductive SlotDrop where
  | none
  | lost (ticket : Nat)
  | given (ticket : Nat)
  deriving DecidableEq, Repr

/-- The outcome of an edit or TAKE-NEXT at its end (R28). -/
structure Outcome where
  qm : QueueManager
  answer : Answer
  drop : SlotDrop := .none

/-- An operation that leaves the queue, the roster and the ticket counter as they were. -/
def QueueManager.unchanged (q : QueueManager) (a : Answer) : Outcome := { qm := q, answer := a }

/-- OK with the ticket and the position it has now. -/
def QueueManager.placed (q : QueueManager) (ticket : Nat) (flags : ReplyFlags := {}) : Outcome :=
  { qm := q, answer := okWith (be2 ticket ++ be1 (positionOf q.queue ticket)) flags }

/-! ### ADD (R12 to R16) -/

/-- The pairs after an ADD of a source: its votes go up by 1, stopping at 15, or its pair is appended
(R13). -/
def voteFor (rs : List Requester) (src : Source) : List Requester :=
  if rs.any (fun r => r.source == src) then
    rs.map (fun r => if r.source = src then { r with votes := min Config.maxVotes (r.votes + 1) } else r)
  else rs ++ [⟨src, 1⟩]

/-- The source's votes already stood at 15: the reply carries CLAMPED (R13). -/
def votesFull (rs : List Requester) (src : Source) : Bool :=
  rs.any (fun r => r.source == src && Config.maxVotes ≤ r.votes)

/-- ADD's arrival checks pass (R12). -/
def addAccepted (p : AddParams) : Bool :=
  1 ≤ p.song && p.song ≤ Config.maxSong && p.title.length ≤ 24 && p.title.all (fun c => c ≤ Config.maxGlyphCode)
    && p.duet ≤ 1 && p.wantsPriority ≤ 1

/-- An ADD is gathered into the entry that waits for its song (R13, R14). -/
def QueueManager.gather (q : QueueManager) (f : InFlight) (src : Source) (p : AddParams) (e : Entry) : Outcome :=
  let wants := p.wantsPriority != 0
  let granted := wants && rightsHold f.rights .priority
  let voted : Entry :=
    { e with
      requesters := voteFor e.requesters src
      title := if e.title.isEmpty then p.title else e.title
      singer := if e.singer.isNone then q.knownSinger p.singer else e.singer }
  let raised := granted && e.cls == .normal
  let promoted := f.threshold != 0 && e.cls == .normal && !raised && e.voteTotal < f.threshold
    && f.threshold ≤ voted.voteTotal
  let flags : ReplyFlags :=
    { gathered := true, promoted := promoted, demoted := wants && !granted,
      clamped := votesFull e.requesters src,
      noSinger := e.singer.isNone && q.unknownSinger p.singer }
  let queue :=
    if raised || promoted then
      joinPriorityTail (removeTicket q.queue e.ticket) { voted with cls := .priority }
    else updateTicket q.queue e.ticket (fun _ => voted)
  QueueManager.placed { q with queue := queue } e.ticket flags

/-- The entry an ADD that is not gathered makes (R15, R16). -/
def QueueManager.freshEntry (q : QueueManager) (f : InFlight) (src : Source) (p : AddParams) : Entry where
  ticket := q.newTicket
  song := p.song
  title := p.title
  requesters := [⟨src, 1⟩]
  singer := q.knownSinger p.singer
  partner := if p.duet = 0 then none else q.knownSinger p.partner
  duet := p.duet != 0
  startKey := clampInt (-6) 6 p.startKey
  tempo := clampNat 85 115 p.tempo
  cls := if p.wantsPriority != 0 && rightsHold f.rights .priority then .priority else .normal
  state := .waiting
  holder := none

/-- An ADD makes a new entry, or finds the queue full (R15). -/
def QueueManager.enter (q : QueueManager) (f : InFlight) (src : Source) (p : AddParams) : Outcome :=
  if Config.queuePlaces ≤ q.queue.length then q.unchanged (refusedWith .full)
  else
    let e := q.freshEntry f src p
    let flags : ReplyFlags :=
      { demoted := p.wantsPriority != 0 && !rightsHold f.rights .priority
        clamped := clampInt (-6) 6 p.startKey != p.startKey || clampNat 85 115 p.tempo != p.tempo
        noSinger := q.unknownSinger p.singer || (p.duet != 0 && q.unknownSinger p.partner) }
    QueueManager.placed
      { q with
        queue := if e.cls = .priority then joinPriorityTail q.queue e else joinNormalTail q.queue e
        ticketCounter := nextTicket e.ticket }
      e.ticket flags

/-- ADD applied (R13, R15). -/
def QueueManager.applyAdd (q : QueueManager) (f : InFlight) (src : Source) (p : AddParams) : Outcome :=
  match waitingSong q.queue p.song with
  | some e => q.gather f src p e
  | none => q.enter f src p

/-! ### Edits that name a ticket (R11, R17 to R20) -/

/-- WITHDRAW's reply: the ticket and the vote total after it (R17). -/
def withdrawAnswer (ticket total : Nat) : Answer := okWith (be2 ticket ++ be1 total)

/-- An entry is removed; a CUED one takes its cue slots with it (R8). -/
def QueueManager.remove (q : QueueManager) (e : Entry) (a : Answer) : Outcome :=
  { qm := { q with queue := removeTicket q.queue e.ticket }
    answer := a
    drop := if e.state = .cued then .lost e.ticket else .none }

/-- WITHDRAW applied (R17). -/
def QueueManager.applyWithdraw (q : QueueManager) (f : InFlight) (src : Source) (ticket : Nat) : Outcome :=
  match findTicket q.queue ticket with
  | none => q.unchanged (refusedWith .noTicket)
  | some e =>
    if e.state = .playing then q.unchanged (refusedWith .inPlay)
    else if e.hasPair src then
      let kept := e.requesters.filter (fun r => r.source != src)
      if kept.isEmpty then q.remove e (withdrawAnswer ticket 0)
      else
        let e' := { e with requesters := kept }
        { qm := { q with queue := updateTicket q.queue ticket (fun _ => e') }
          answer := withdrawAnswer ticket e'.voteTotal }
    else if src = .player || rightsHold f.rights .cancelAny then q.remove e (withdrawAnswer ticket 0)
    else q.unchanged (refusedWith .notYours)

/-- HOLD applied (R18). -/
def QueueManager.applyHold (q : QueueManager) (src : Source) (ticket : Nat) : Outcome :=
  match findTicket q.queue ticket with
  | none => q.unchanged (refusedWith .noTicket)
  | some e =>
    if e.state != .waiting then q.unchanged (refusedWith .wrongState)
    else if src = .player || e.hasPair src then
      QueueManager.placed
        { q with queue := updateTicket q.queue ticket (fun _ => { e with state := .held, holder := some src }) }
        ticket
    else q.unchanged (refusedWith .notYours)

/-- RELEASE applied (R19). -/
def QueueManager.applyRelease (q : QueueManager) (src : Source) (ticket : Nat) : Outcome :=
  match findTicket q.queue ticket with
  | none => q.unchanged (refusedWith .noTicket)
  | some e =>
    if e.state != .held then q.unchanged (refusedWith .wrongState)
    else if src = .player || e.holder = some src then
      QueueManager.placed
        { q with queue := updateTicket q.queue ticket (fun _ => { e with state := .waiting, holder := none }) }
        ticket
    else q.unchanged (refusedWith .notYours)

/-- RAISE or LOWER applied: the entry rejoins at the place `join` gives, in class `cls` (R11, R20). -/
def QueueManager.applyMove (q : QueueManager) (f : InFlight) (src : Source) (ticket : Nat) (cls : EntryClass)
    (join : List Entry → Entry → List Entry) : Outcome :=
  if src != .player && !rightsHold f.rights .raise then q.unchanged (refusedWith .noRight)
  else
    match findTicket q.queue ticket with
    | none => q.unchanged (refusedWith .noTicket)
    | some e =>
      if e.waits then
        QueueManager.placed
          { q with queue := join (removeTicket q.queue ticket) { e with cls := cls } } ticket
      else q.unchanged (refusedWith .wrongState)

/-- RAISE applied (R20). -/
def QueueManager.applyRaise (q : QueueManager) (f : InFlight) (src : Source) (ticket : Nat) : Outcome :=
  q.applyMove f src ticket .priority joinPriorityHead

/-- LOWER applied (R20). -/
def QueueManager.applyLower (q : QueueManager) (f : InFlight) (src : Source) (ticket : Nat) : Outcome :=
  q.applyMove f src ticket .normal joinNormalTail

/-! ### CLEAR-QUEUE and the roster edits (R21 to R23) -/

/-- CLEAR-QUEUE applied (R21). -/
def QueueManager.applyClear (q : QueueManager) : Outcome :=
  { qm := { q with queue := q.queue.filter (fun e => !e.waits) }
    answer := okWith (be1 (q.queue.countP Entry.waits)) }

/-- SINGER-ADD's arrival checks pass (R22). -/
def nameAccepted (name : List Nat) : Bool :=
  1 ≤ name.length && name.length ≤ 12 && name.all (fun c => c ≤ Config.maxGlyphCode)

/-- SINGER-ADD applied (R22). -/
def QueueManager.applySingerAdd (q : QueueManager) (src : Source) (name : List Nat) : Outcome :=
  match q.placeWhere (fun r => r.any (fun g => g.name == name)) with
  | some n => q.unchanged (okWith (be1 n) { gathered := true })
  | none =>
    match q.placeWhere (fun r => r.isNone) with
    | some n => { qm := q.setSinger n (some ⟨name, src⟩), answer := okWith (be1 n) }
    | none => q.unchanged (refusedWith .full)

/-- The entry names the singer (R23). -/
def Entry.names (e : Entry) (n : Nat) : Bool := e.singer == some n || e.partner == some n

/-- The entry with a dropped singer's number taken out (R23). -/
def Entry.without (e : Entry) (n : Nat) : Entry :=
  { e with
    singer := if e.singer = some n then none else e.singer
    partner := if e.partner = some n then none else e.partner }

/-- SINGER-DROP applied (R23). -/
def QueueManager.applySingerDrop (q : QueueManager) (src : Source) (n : Nat) : Outcome :=
  match q.singerAt n with
  | none => q.unchanged (refusedWith .badValue)
  | some r =>
    if src = .player || r.owner = src then
      { qm := { q.setSinger n none with queue := q.queue.map (fun e => e.without n) }
        answer := okWith (be1 (q.queue.countP (fun e => e.names n))) }
    else q.unchanged (refusedWith .notYours)

/-! ### A CUED entry returns (R9) -/

/-- A pair absorbed: its votes join the source's own, stopping at 15, or it is appended (R9). -/
def absorbPair (rs : List Requester) (r : Requester) : List Requester :=
  if rs.any (fun k => k.source == r.source) then
    rs.map (fun k =>
      if k.source = r.source then { k with votes := min Config.maxVotes (k.votes + r.votes) } else k)
  else rs ++ [r]

/-- The returning entry after absorbing a waiting repeat of its song (R9). -/
def Entry.absorb (e a : Entry) : Entry :=
  { e with
    requesters := a.requesters.foldl absorbPair e.requesters
    title := if e.title.isEmpty then a.title else e.title
    singer := e.singer.or a.singer
    partner := if e.duet then e.partner.or a.partner else e.partner
    cls := if e.cls = .priority ∨ a.cls = .priority then .priority else .normal
    state := a.state
    holder := a.holder }

/-- A returning entry joins the head of the section of its class (R9). -/
def joinClassHead (q : List Entry) (e : Entry) : List Entry :=
  if e.cls = .priority then joinPriorityHead q e else joinPriorityTail q e

/-- The queue after the CUED entry returns to WAITING (R9). -/
def returnCued (q : List Entry) (c : Entry) : List Entry :=
  let rest := removeTicket q c.ticket
  let back := { c with state := EntryState.waiting }
  match waitingSong rest c.song with
  | some a => joinClassHead (removeTicket rest a.ticket) (back.absorb a)
  | none => joinClassHead rest back

/-- UNCUE applied (R36). -/
def QueueManager.applyUncue (q : QueueManager) : Outcome :=
  match cuedEntry q.queue with
  | none => q.unchanged (refusedWith .wrongState)
  | some c => { QueueManager.placed { q with queue := returnCued q.queue c } c.ticket with drop := .given c.ticket }

/-! ### TAKE-NEXT (R35) -/

/-- Every field of an entry, with its position, as QUERY and TAKE-NEXT return it (R25, R35). -/
def entryPayload (position : Nat) (e : Entry) : List Byte :=
  be1 position ++ be2 e.ticket ++ be3 e.song ++ encText e.title
    ++ be1 e.requesters.length
    ++ e.requesters.flatMap (fun r => be1 (sourceNumber r.source) ++ be1 r.votes)
    ++ be1 e.voteTotal ++ encRoster e.singer ++ encRoster e.partner ++ encBool e.duet
    ++ encSigned e.startKey ++ be1 e.tempo ++ encClass e.cls ++ encEntryState e.state ++ encSource e.holder

/-- A CUED entry stands directly after the PLAYING entry (R35). -/
def joinAfterPlaying (q : List Entry) (e : Entry) : List Entry :=
  q.takeWhile (fun k => k.state == .playing) ++ e :: q.dropWhile (fun k => k.state == .playing)

/-- TAKE-NEXT applied (R35). -/
def QueueManager.applyTakeNext (q : QueueManager) : Outcome :=
  if (cuedEntry q.queue).isSome then q.unchanged (refusedWith .wrongState)
  else
    match candidate q.queue with
    | none => q.unchanged (refusedWith .empty)
    | some e =>
      let taken := { e with state := EntryState.cued }
      let queue := joinAfterPlaying (removeTicket q.queue e.ticket) taken
      { qm := { q with queue := queue }, answer := okWith (entryPayload (positionOf queue e.ticket) taken) }

/-- An edit applied. -/
def QueueManager.applyEdit (q : QueueManager) (f : InFlight) (src : Source) : Edit → Outcome
  | .add p => q.applyAdd f src p
  | .withdraw t => q.applyWithdraw f src t
  | .hold t => q.applyHold src t
  | .release t => q.applyRelease src t
  | .raise t => q.applyRaise f src t
  | .lower t => q.applyLower f src t
  | .uncue => q.applyUncue
  | .clearQueue => q.applyClear
  | .singerAdd name => q.applySingerAdd src name
  | .singerDrop n => q.applySingerDrop src n

/-! ### The stage notices (R37 to R39) -/

/-- A history record made from an entry (R6, R7), the names copied from the roster. -/
def QueueManager.recordOf (q : QueueManager) (e : Entry) (kind : EndKind) (time : Nat) (lanes : PerLane Finals) :
    HistoryRecord where
  ticket := e.ticket
  song := e.song
  title := e.title
  singerName := q.nameAt e.singer
  partnerName := q.nameAt e.partner
  duet := e.duet
  endKind := kind
  timeReached := time
  lanes := lanes

/-- A history record is filed: the oldest of 16 is dropped first (R7). -/
def fileRecord (h : List HistoryRecord) (r : HistoryRecord) : List HistoryRecord :=
  (if Config.historyPlaces ≤ h.length then h.tail else h) ++ [r]

/-- The PLAYING entry, if any, leaves the queue and is filed (R7, R38, R39). -/
def QueueManager.retire (q : QueueManager) (kind : EndKind) (time : Nat) (lanes : PerLane Finals) : QueueManager :=
  match playingEntry q.queue with
  | none => q
  | some e =>
    { q with
      queue := removeTicket q.queue e.ticket
      history := fileRecord q.history (q.recordOf e kind time lanes) }

/-- The finals of an abandoned lane (R39). -/
def Finals.abandoned : Finals := ⟨none, 0, ⟨0, 0, 0, 0⟩, 0⟩

/-- The QM's part of a RESET notice (R39). -/
def QueueManager.abandon (q : QueueManager) (time : Nat) : QueueManager :=
  let q' := q.retire .aborted time ⟨Finals.abandoned, Finals.abandoned⟩
  match cuedEntry q'.queue with
  | none => q'
  | some c => { q' with queue := returnCued q'.queue c }

end Sys2Proof.Machine
end

