-- ==== Sys2Proof/Machine/Arbiter.lean ====
section
/-! DEFINITION. Queue operations in time: arrival, the backlog, the notice list, the arbiter, and the end of
an operation (chapter 2). The commands that reach the QM as edits, TAKE-NEXT, and the ends of the
operations. -/

namespace Sys2Proof.Machine

/-! ### Taking operations -/

/-- The source whose rights an operation is judged by; a TAKE-NEXT or a notice reads none. -/
def Operation.source : Operation → Source
  | .edit item => item.source
  | .takeNext => .player
  | .notice _ => .player

/-- The QM with an operation in flight, taken with these rights and this promote threshold (R28). -/
def QueueManager.begin (q : QueueManager) (op : Operation) (rights : BitVec 4) (threshold : Nat) : QueueManager :=
  { q with inFlight := some ⟨op, rights, threshold⟩ }

/-- The arbiter takes an operation: the rights and the promote threshold are read now (R28, entry 16). -/
def State.take (s : State) (op : Operation) : State :=
  s.withQm (s.qm.begin op (s.rightsOf op.source) s.ps.profile.promote)

/-- An edit, TAKE-NEXT or notice arrives: an idle QM takes it at once, and otherwise it waits where its kind
waits (R29 to R32). -/
def State.arrive (s : State) (op : Operation) : State :=
  if s.qm.inFlight.isNone then s.take op
  else
    match op with
    | .edit item => s.withQm { s.qm with backlog := s.qm.backlog ++ [item] }
    | .takeNext => s.withQm { s.qm with takeNext := some s.qm.backlog.length }
    | .notice n => s.withQm { s.qm with notices := s.qm.notices ++ [n] }

/-- An edit hits the candidate (R34). -/
def Edit.hits (threshold : Nat) (c : Option Entry) : Edit → Bool
  | .withdraw t => c.any (fun e => e.ticket == t)
  | .hold t => c.any (fun e => e.ticket == t)
  | .lower t => c.any (fun e => e.ticket == t)
  | .release _ => true
  | .raise _ => true
  | .add p => p.wantsPriority != 0 || threshold != 0 || c.isNone
  | .uncue => false
  | .clearQueue => false
  | .singerAdd _ => false
  | .singerDrop _ => false

/-- Some edit ahead of the TAKE-NEXT hits the candidate (R33, R34). -/
def QueueManager.anyHit (q : QueueManager) (threshold ahead : Nat) : Bool :=
  (q.backlog.take ahead).any (fun item => item.edit.hits threshold (candidate q.queue))

/-- The oldest edit of the backlog is taken; fewer edits remain ahead of a waiting TAKE-NEXT (R32, R33). With
an empty backlog the QM becomes idle (R29). -/
def State.takeOldestEdit (s : State) : State :=
  match s.qm.backlog with
  | [] => s.withQm { s.qm with inFlight := none }
  | item :: rest =>
    (s.withQm { s.qm with backlog := rest, takeNext := s.qm.takeNext.map (fun k => k - 1) }).take (.edit item)

/-- The arbiter's choice when an operation ends (R33). -/
def State.arbitrate (s : State) : State :=
  match s.qm.notices with
  | n :: rest => (s.withQm { s.qm with notices := rest }).take (.notice n)
  | [] =>
    match s.qm.takeNext with
    | some ahead =>
      if s.qm.anyHit s.ps.profile.promote ahead then s.takeOldestEdit
      else (s.withQm { s.qm with takeNext := none }).take .takeNext
    | none => s.takeOldestEdit

/-! ### Ends of operations -/

/-- QUEUE-CHANGED, when the queue or the roster differs from what it was (R10). -/
def State.noteChange (s : State) (before : QueueManager) : State :=
  if s.qm.queue = before.queue ∧ s.qm.roster = before.roster then s else s.queueChanged

/-- The slot changes an edit makes at its end (R40). -/
def State.applyDrop (s : State) : SlotDrop → State
  | .none => s
  | .lost t => (s.dropSlots (carriesTicket t)).raisePlayer .cueLost
  | .given t => s.dropSlots (carriesTicket t)

/-- The end of an edit or TAKE-NEXT: its changes take effect together, its reply goes to its port, and the
arbiter chooses the next operation (R28, R33). -/
def State.finish (s : State) (src : Source) (c : Command) (o : Outcome) : State :=
  ((((s.withQm o.qm).applyDrop o.drop).noteChange s.qm).answer src c o.answer).arbitrate

/-- The end of a notice: the slots change with the queue, and the confirmation is sent (R28, R37 to R39). -/
def State.finishNotice (s : State) (q : QueueManager) (slots : State → State) (c : Confirmation) : State :=
  ((slots (s.withQm { q with toStage := q.toStage ++ [c] })).noteChange s.qm).arbitrate

/-- The end of the edit in flight, where it is one of the kind named; an end that finds no such operation in
flight changes nothing (entry 3). -/
def State.endEdit (s : State) (kind : Command) : State :=
  match s.qm.inFlight with
  | some f =>
    match f.op with
    | .edit item =>
      if item.edit.command = kind then s.finish item.source kind (s.qm.applyEdit f item.source item.edit)
      else s
    | .takeNext => s
    | .notice _ => s
  | none => s

/-- The end of the TAKE-NEXT in flight (R35). -/
def State.endTakeNext (s : State) : State :=
  match s.qm.inFlight with
  | some f =>
    match f.op with
    | .takeNext => s.finish .player .takeNext s.qm.applyTakeNext
    | .edit _ => s
    | .notice _ => s
  | none => s

/-- The notice in flight. -/
def QueueManager.noticeInFlight (q : QueueManager) : Option Notice :=
  match q.inFlight with
  | some f =>
    match f.op with
    | .notice n => some n
    | .edit _ => none
    | .takeNext => none
  | none => none

/-- A LOADED slot that carries the ticket becomes PLAYING (R37). -/
def Slot.begin (ticket : Nat) : Slot → Slot
  | .loaded g => if g.ticket = ticket then .playing g else .loaded g
  | .empty => .empty
  | .loading l => .loading l
  | .failed f => .failed f
  | .playing g => .playing g

/-- The slot carrying a started ticket becomes PLAYING (R37). -/
def State.playSlot (ticket : Nat) (s : State) : State :=
  s.withSl { s.sl with slotA := s.sl.slotA.begin ticket, slotB := s.sl.slotB.begin ticket }

/-- The end of the START notice in flight (R37). -/
def State.endStartNotice (s : State) : State :=
  match s.qm.noticeInFlight with
  | some (.start ticket) =>
    match cuedEntry s.qm.queue with
    | some e =>
      if e.ticket = ticket then
        s.finishNotice
          { s.qm with queue := updateTicket s.qm.queue ticket (fun _ => { e with state := .playing }) }
          (State.playSlot ticket) (.start e.startKey e.tempo e.duet)
      else s.finishNotice s.qm id .cueLost
    | none => s.finishNotice s.qm id .cueLost
  | _ => s

/-- The end of the RETIRE notice in flight (R38). -/
def State.endRetireNotice (s : State) : State :=
  match s.qm.noticeInFlight with
  | some (.retire kind time lanes) =>
    s.finishNotice (s.qm.retire kind time lanes) (fun t => t.dropSlots Slot.isPlaying) .retire
  | _ => s

/-- The end of the RESET notice in flight (R39). -/
def State.endResetNotice (s : State) : State :=
  match s.qm.noticeInFlight with
  | some (.reset time) =>
    s.finishNotice (s.qm.abandon time) (fun t => t.dropSlots (fun _ => true)) .reset
  | _ => s

/-! ### The owners of the QM's commands -/

/-- ADD reaches the QM (R12, R30). -/
def State.qmAdd (src : Source) (p : AddParams) (s : State) : State :=
  if addAccepted p then s.arrive (.edit ⟨src, .add p⟩) else s.answer src .add (refusedWith .badValue)

/-- SINGER-ADD reaches the QM (R22, R30). -/
def State.qmSingerAdd (src : Source) (name : List Nat) (s : State) : State :=
  if nameAccepted name then s.arrive (.edit ⟨src, .singerAdd name⟩)
  else s.answer src .singerAdd (refusedWith .badValue)

/-- Any other edit joins without a check (R30). -/
def State.qmEdit (src : Source) (e : Edit) (s : State) : State := s.arrive (.edit ⟨src, e⟩)

/-- TAKE-NEXT reaches the QM (R32). -/
def State.qmTakeNext (s : State) : State := s.arrive .takeNext

/-! ### Reads (R24 to R26) -/

/-- An entry summary, 12 bytes (R171). -/
def summaryPayload (position : Nat) (e : Entry) : List Byte :=
  be1 position ++ be2 e.ticket ++ encEntryState e.state ++ encClass e.cls ++ be3 e.song
    ++ be1 e.voteTotal ++ encRoster e.singer ++ encRoster e.partner ++ encBool e.duet

/-- LIST's payload (R24, R171). -/
def QueueManager.listPayload (q : QueueManager) (position count : Nat) : List Byte :=
  let shown := (q.queue.drop position).take count
  be1 q.queue.length ++ be1 shown.length
    ++ (shown.zipIdx position).flatMap (fun r => summaryPayload r.2 r.1)

/-- LIST answered (R24). -/
def State.qmList (src : Source) (position count : Nat) (s : State) : State :=
  s.answer src .list
    (if position ≤ 39 ∧ 1 ≤ count ∧ count ≤ 8 then okWith (s.qm.listPayload position count)
     else refusedWith .badValue)

/-- QUERY answered (R25). -/
def State.qmQuery (src : Source) (ticket : Nat) (s : State) : State :=
  s.answer src .query
    (match findTicket s.qm.queue ticket with
     | some e => okWith (entryPayload (positionOf s.qm.queue ticket) e)
     | none => refusedWith .noTicket)

/-- The finals of a lane in a payload (R6, R104). -/
def finalsPayload (f : Finals) : List Byte :=
  encScore f.score ++ be2 f.graded ++ be2 f.counts.perfect ++ be2 f.counts.good ++ be2 f.counts.fair
    ++ be2 f.counts.miss ++ be2 f.maxStreak

/-- A history record in a payload: R6's fields, each lane's together (entry 20). -/
def recordPayload (h : HistoryRecord) : List Byte :=
  be2 h.ticket ++ be3 h.song ++ encText h.title ++ encTextOption h.singerName ++ encTextOption h.partnerName
    ++ encBool h.duet ++ encEndKind h.endKind ++ encTime h.timeReached
    ++ finalsPayload h.lanes.lane0 ++ finalsPayload h.lanes.lane1

/-- The leading items whose encodings fit in the bytes left (R26). -/
def leadingThatFit (left : Nat) : List (List Byte) → List (List Byte)
  | [] => []
  | x :: rest => if x.length ≤ left then x :: leadingThatFit (left - x.length) rest else []

/-- HISTORY's payload: the history length, then the list of the records that fit (R26, R169). -/
def QueueManager.historyPayload (q : QueueManager) (start count : Nat) : List Byte :=
  let items := leadingThatFit (Config.maxPayload - 2) (((q.history.reverse.drop start).take count).map recordPayload)
  be1 q.history.length ++ be1 items.length ++ items.flatten

/-- HISTORY answered (R26). -/
def State.qmHistory (src : Source) (start count : Nat) (s : State) : State :=
  s.answer src .history
    (if start ≤ 15 ∧ 1 ≤ count ∧ count ≤ 8 then okWith (s.qm.historyPayload start count)
     else refusedWith .badValue)

/-- A singer record in a payload: number, name, owner (R26). -/
def singerPayload (n : Nat) (r : Singer) : List Byte :=
  be1 n ++ encText r.name ++ encSource (some r.owner)

/-- ROSTER's payload: the number of singers, then the list of the records that fit (R26, R169). -/
def QueueManager.rosterPayload (q : QueueManager) (first : Nat) : List Byte :=
  let numbered := (List.range' first (17 - first)).filterMap (fun n => (q.singerAt n).map (singerPayload n))
  let items := leadingThatFit (Config.maxPayload - 2) numbered
  be1 (q.roster.toList.countP Option.isSome) ++ be1 items.length ++ items.flatten

/-- ROSTER answered; the first number is 1 when omitted (R26). -/
def State.qmRoster (src : Source) (first : Option Nat) (s : State) : State :=
  s.answer src .roster
    (if 1 ≤ first.getD 1 ∧ first.getD 1 ≤ 16 then okWith (s.qm.rosterPayload (first.getD 1))
     else refusedWith .badValue)

/-! ### Meanings -/

/-- ADD (R12, R30). -/
def execAdd (src : Source) (p : AddParams) (s : State) : Result :=
  .next (s.command src .add true (State.qmAdd src p))

/-- WITHDRAW (R30). -/
def execWithdraw (src : Source) (ticket : Nat) (s : State) : Result :=
  .next (s.command src .withdraw true (State.qmEdit src (.withdraw ticket)))

/-- HOLD (R30). -/
def execHold (src : Source) (ticket : Nat) (s : State) : Result :=
  .next (s.command src .hold true (State.qmEdit src (.hold ticket)))

/-- RELEASE (R30). -/
def execRelease (src : Source) (ticket : Nat) (s : State) : Result :=
  .next (s.command src .release true (State.qmEdit src (.release ticket)))

/-- RAISE (R30). -/
def execRaise (src : Source) (ticket : Nat) (s : State) : Result :=
  .next (s.command src .raise true (State.qmEdit src (.raise ticket)))

/-- LOWER (R30). -/
def execLower (src : Source) (ticket : Nat) (s : State) : Result :=
  .next (s.command src .lower true (State.qmEdit src (.lower ticket)))

/-- SINGER-ADD (R22, R30). -/
def execSingerAdd (src : Source) (name : List Nat) (s : State) : Result :=
  .next (s.command src .singerAdd true (State.qmSingerAdd src name))

/-- SINGER-DROP (R30). -/
def execSingerDrop (src : Source) (number : Nat) (s : State) : Result :=
  .next (s.command src .singerDrop true (State.qmEdit src (.singerDrop number)))

/-- CLEAR-QUEUE (R21, R30). -/
def execClearQueue (src : Source) (s : State) : Result :=
  .next (s.command src .clearQueue true (State.qmEdit src .clearQueue))

/-- UNCUE (R36). -/
def execUncue (src : Source) (s : State) : Result :=
  .next (s.command src .uncue true (State.qmEdit src .uncue))

/-- TAKE-NEXT (R32). -/
def execTakeNext (src : Source) (s : State) : Result :=
  .next (s.command src .takeNext true State.qmTakeNext)

/-- The end of an ADD's application (R13 to R16). -/
def execAddApplied (s : State) : Result := .next (s.outsideReset (fun t => t.endEdit .add))

/-- The end of a WITHDRAW's application (R17). -/
def execWithdrawApplied (s : State) : Result := .next (s.outsideReset (fun t => t.endEdit .withdraw))

/-- The end of a HOLD's application (R18). -/
def execHoldApplied (s : State) : Result := .next (s.outsideReset (fun t => t.endEdit .hold))

/-- The end of a RELEASE's application (R19). -/
def execReleaseApplied (s : State) : Result := .next (s.outsideReset (fun t => t.endEdit .release))

/-- The end of a RAISE's application (R20). -/
def execRaiseApplied (s : State) : Result := .next (s.outsideReset (fun t => t.endEdit .raise))

/-- The end of a LOWER's application (R20). -/
def execLowerApplied (s : State) : Result := .next (s.outsideReset (fun t => t.endEdit .lower))

/-- The end of a CLEAR-QUEUE's application (R21). -/
def execClearQueueApplied (s : State) : Result := .next (s.outsideReset (fun t => t.endEdit .clearQueue))

/-- The end of a SINGER-ADD's application (R22). -/
def execSingerAddApplied (s : State) : Result := .next (s.outsideReset (fun t => t.endEdit .singerAdd))

/-- The end of a SINGER-DROP's application (R23). -/
def execSingerDropApplied (s : State) : Result := .next (s.outsideReset (fun t => t.endEdit .singerDrop))

/-- The end of an UNCUE's application (R36). -/
def execUncueApplied (s : State) : Result := .next (s.outsideReset (fun t => t.endEdit .uncue))

/-- The end of a TAKE-NEXT's application (R35). -/
def execTakeNextApplied (s : State) : Result := .next (s.outsideReset State.endTakeNext)

/-- The end of a START notice's application (R37). -/
def execStartNoticeApplied (s : State) : Result := .next (s.outsideReset State.endStartNotice)

/-- The end of a RETIRE notice's application (R38). -/
def execRetireNoticeApplied (s : State) : Result := .next (s.outsideReset State.endRetireNotice)

/-- The end of a RESET notice's application (R39). -/
def execResetNoticeApplied (s : State) : Result := .next (s.outsideReset State.endResetNotice)

/-- LIST (R24). -/
def execList (src : Source) (position count : Nat) (s : State) : Result :=
  .next (s.command src .list true (State.qmList src position count))

/-- QUERY (R25). -/
def execQuery (src : Source) (ticket : Nat) (s : State) : Result :=
  .next (s.command src .query true (State.qmQuery src ticket))

/-- HISTORY (R26). -/
def execHistory (src : Source) (start count : Nat) (s : State) : Result :=
  .next (s.command src .history true (State.qmHistory src start count))

/-- ROSTER (R26). -/
def execRoster (src : Source) (first : Option Nat) (s : State) : Result :=
  .next (s.command src .roster true (State.qmRoster src first))

end Sys2Proof.Machine
end

