-- ==== Sys2Proof/Machine/Loader.lean ====
section
/-! DEFINITION. The Song Loader: opening a load, applying the records of a LOAD-DATA, and ending a load
(chapter 3). -/

namespace Sys2Proof.Machine

/-! ### Clamping and checking one record (R54, R60, R61) -/

/-- 1 when a clamp changed a field. -/
def changed (before after : Nat) : Nat := if before = after then 0 else 1

/-- Step 3 of R54: the record with its fields brought into range, and how many were changed (R61). -/
def RawRecord.clamp : RawRecord → CueRecord × Nat
  | .line n st sp part c => (.line n st sp part c, 0)
  | .syl off dur count codes =>
    (.syl off (clampNat 1 10000 dur) (if count = 0 then [32] else codes.take (min count 5)),
      changed dur (clampNat 1 10000 dur) + changed count (clampNat 1 5 count))
  | .note st dur num part =>
    (.note st (clampNat 20 20000 dur) (clampNat 36 96 num) part,
      changed dur (clampNat 20 20000 dur) + changed num (clampNat 36 96 num))
  | .mark k t => (.mark k t, 0)

/-- The latest note end among notes sharing a part with this tag (R60). -/
def LoadTracking.noteEnd (k : LoadTracking) : PartTag → Nat
  | .p1 => k.noteEndP1
  | .p2 => k.noteEndP2
  | .both => max k.noteEndP1 k.noteEndP2

/-- The checks of a LINE, in R60's order. -/
def LoadTracking.checkLine (k : LoadTracking) (number start stop syllables : Nat) : Option FailReason :=
  if k.expected ≠ 0 then some .sylCount
  else if syllables < 1 ∨ 48 < syllables then some .sylCount
  else if number ≠ k.lastLine + 1 ∨ 512 < number then some .lineOrder
  else if Config.maxTime < start ∨ Config.maxTime < stop then some .timeRange
  else if stop ≤ start ∨ start + 60000 < stop ∨ start < k.lineStart then some .lineOrder
  else none

/-- The checks of a SYL, in R60's order. -/
def LoadTracking.checkSyl (k : LoadTracking) (offset : Nat) : Option FailReason :=
  if k.lastLine = 0 then some .sylOrphan
  else if k.expected = 0 then some .sylCount
  else if k.lineStop - k.lineStart ≤ offset then some .sylRange
  else if k.lineStart + offset < k.lastSyllable.getD 0 then some .sylRange
  else none

/-- The checks of a NOTE, in R60's order, on its clamped fields. -/
def LoadTracking.checkNote (k : LoadTracking) (start duration : Nat) (part : PartTag) : Option FailReason :=
  if Config.maxTime < start ∨ Config.maxTime < start + duration then some .timeRange
  else if start < k.lastNote.getD 0 then some .noteOrder
  else if start < k.noteEnd part then some .noteOrder
  else none

/-- The checks of a MARK, END or not, in R60's order. -/
def LoadTracking.checkMark (k : LoadTracking) (kind : MarkKind) (time : Nat) : Option FailReason :=
  if kind = .finish then
    if k.expected ≠ 0 then some .sylCount
    else if Config.maxTime < time then some .timeRange
    else if time = 0 ∨ time < k.latestLineEnd ∨ time < k.noteEndP1 ∨ time < k.noteEndP2 then some .endEarly
    else none
  else if Config.maxTime < time then some .timeRange
  else none

/-- Step 4 of R54. -/
def LoadTracking.check (k : LoadTracking) : CueRecord → Option FailReason
  | .line n st sp _ c => k.checkLine n st sp c
  | .syl off _ _ => k.checkSyl off
  | .note st dur _ part => k.checkNote st dur part
  | .mark kind t => k.checkMark kind t

/-! ### Storing one record (R54 step 5, R51) -/

/-- The load tracking brought up to date by a stored record. -/
def LoadTracking.after (k : LoadTracking) : CueRecord → LoadTracking
  | .line n st sp _ c =>
    { k with
      lastLine := n
      lineStart := st
      lineStop := sp
      expected := c
      lastSyllable := none
      latestLineEnd := max k.latestLineEnd sp }
  | .syl off _ _ => { k with expected := k.expected - 1, lastSyllable := some (k.lineStart + off) }
  | .note st dur _ part =>
    { k with
      lastNote := some st
      noteEndP1 := if part = .p2 then k.noteEndP1 else st + dur
      noteEndP2 := if part = .p1 then k.noteEndP2 else st + dur }
  | .mark kind _ => { k with ended := kind == .finish }

/-- The note range and count of a part after one more note of it (R51). -/
def PartIndex.note (x : PartIndex) (number : Nat) : PartIndex where
  count := x.count + 1
  range :=
    match x.range with
    | none => some (number, number)
    | some (lo, hi) => some (min lo number, max hi number)

/-- The derived index brought up to date by a record stored at a place (R51). -/
def DerivedIndex.after (x : DerivedIndex) (place : Nat) : CueRecord → DerivedIndex
  | .line _ st sp _ _ => { x with lines := x.lines ++ [⟨st, sp, place⟩] }
  | .syl _ _ _ => x
  | .note _ _ num .p1 => { x with p1 := x.p1.note num }
  | .note _ _ num .p2 => { x with p2 := x.p2.note num }
  | .note _ _ num .both => { x with both := x.both.note num }
  | .mark kind t => if kind = .finish then { x with endTime := some t } else x

/-- A load with a record stored. -/
def Load.store (l : Load) (r : CueRecord) : Load :=
  { l with
    records := l.records ++ [r]
    remaining := l.remaining.map (fun n => n - 1)
    tracking := l.tracking.after r
    index := l.index.after l.records.length r }

/-- The clamp count after a record with this many fields clamped (R61). DEDUCED, entry 28: it stops at the top of the range
that R44 gives it. -/
def Load.clampsWith (l : Load) (changed : Nat) : Nat := min Config.maxClamps (l.clamps + changed)

/-- One record applied (R54): the load after it, and why it failed if it did. The clamps of a record that
then fails its checks stay counted (entry 28). A record for place 6,144 fails with TOO-LONG (R56, entry 29). -/
def Load.applyRecord (l : Load) (raw : List Byte) : Load × Option FailReason :=
  if l.tracking.ended then (l, some .extra)
  else
    match decodeRecord l.order raw with
    | none => (l, some .badRecord)
    | some r =>
      let c := r.clamp
      let l' := { l with clamps := l.clampsWith c.2 }
      match l.tracking.check c.1 with
      | some why => (l', some why)
      | none => if Config.slotPlaces ≤ l.records.length then (l', some .tooLong) else (l'.store c.1, none)

/-! ### Applying a frame (R53, R55 to R57) -/

/-- What a frame did to its load. -/
inductive LoadEnd where
  | going
  | complete
  | failed (why : FailReason)
  deriving DecidableEq, Repr

/-- The result of a frame: the load, the records accepted, how it ended, and whether records beyond the
count were discarded (R55, R57). -/
structure FrameResult where
  load : Load
  accepted : Nat
  ending : LoadEnd
  overrun : Bool
  deriving DecidableEq, Repr

/-- The records of a frame applied in order, until the frame is exhausted or the load ends (R53). -/
def Load.applyFrame (l : Load) (accepted : Nat) : List (List Byte) → FrameResult
  | [] => ⟨l, accepted, .going, false⟩
  | raw :: rest =>
    match l.applyRecord raw with
    | (l', some why) => ⟨l', accepted, .failed why, false⟩
    | (l', none) =>
      if l'.remaining = some 0 then
        ⟨l', accepted + 1, if l'.tracking.ended then .complete else .failed .noEnd, !rest.isEmpty⟩
      else l'.applyFrame (accepted + 1) rest

/-- The records of a frame: 16 bytes each (R170). -/
def recordsOf (bytes : List Byte) : List (List Byte) :=
  (List.range (bytes.length / 16)).map (fun j => (bytes.drop (16 * j)).take 16)

/-- The slot a load is in after it went on, completed or failed (R44). -/
def Load.slotAfter (l : Load) : LoadEnd → Slot
  | .going => .loading l
  | .complete => .loaded ⟨l.ticket, l.records, l.index, l.clamps⟩
  | .failed why => .failed ⟨l.ticket, l.records, l.clamps, why⟩

/-- The fail reason of an end. -/
def LoadEnd.reason : LoadEnd → Option FailReason
  | .failed why => some why
  | .going => none
  | .complete => none

/-- LOAD-DONE is raised for a load that ended LOADED or FAILED (R64). -/
def State.loadDone (s : State) (e : LoadEnd) : State := if e = .going then s else s.raisePlayer .loadDone

/-- LOAD-DATA's payload (R57). -/
def loadDataPayload (n : SlotName) (r : FrameResult) : List Byte :=
  encSlotName n ++ be1 r.accepted ++ encSlotState (r.load.slotAfter r.ending) ++ encFailReason r.ending.reason
    ++ be2 r.load.records.length ++ encRemaining r.load.remaining ++ be2 r.load.clamps

/-- The end of the LOAD-DATA in flight (R53, R57, R64); with none in flight nothing changes (entry 3). -/
def State.endLoadData (s : State) : State :=
  match s.sl.inFlight with
  | none => s
  | some f =>
    match s.sl.get f.slot with
    | .loading l =>
      let r := l.applyFrame 0 (recordsOf f.bytes)
      (((s.withSl { s.sl.set f.slot (r.load.slotAfter r.ending) with inFlight := none }).loadDone r.ending).answer
        .player .loadData ⟨if r.overrun then .overrun else .ok, {}, loadDataPayload f.slot r⟩)
    | _ => s

/-! ### The load commands (R52, R53, R58, R59) -/

/-- Fresh load tracking (R54). -/
def LoadTracking.fresh : LoadTracking where
  lastLine := 0
  lineStart := 0
  lineStop := 0
  expected := 0
  lastSyllable := none
  lastNote := none
  noteEndP1 := 0
  noteEndP2 := 0
  latestLineEnd := 0
  ended := false

/-- An empty derived index (R52). -/
def DerivedIndex.fresh : DerivedIndex := ⟨⟨0, none⟩, ⟨0, none⟩, ⟨0, none⟩, none, []⟩

/-- The load a LOAD-OPEN begins (R52). -/
def Load.opened (ticket count : Nat) (order : ByteOrder) : Load where
  ticket := ticket
  records := []
  remaining := if count = 0 then none else some count
  order := order
  tracking := LoadTracking.fresh
  clamps := 0
  index := DerivedIndex.fresh

/-- The slot a LOAD-OPEN chooses (R52). -/
def SongLoader.target (sl : SongLoader) (ticket : Nat) : SlotName :=
  if sl.slotA.isPlaying then .b
  else if sl.slotB.isPlaying then .a
  else (sl.carrying ticket).getD .a

/-- The CUED entry of the applied queue carries the ticket (R52, R67). -/
def QueueManager.cuedIs (q : QueueManager) (ticket : Nat) : Bool :=
  (cuedEntry q.queue).any (fun e => e.ticket == ticket)

/-- LOAD-OPEN reaches the SL (R52). -/
def State.slLoadOpen (src : Source) (ticket count order : Nat) (s : State) : State :=
  if Config.slotPlaces < count ∨ 1 < order then s.answer src .loadOpen (refusedWith .badValue)
  else if s.qm.cuedIs ticket then
    let n := s.sl.target ticket
    let l := Load.opened ticket count (if order = 0 then .little else .big)
    (s.withSl (s.sl.set n (.loading l))).answer src .loadOpen (okWith (encSlotName n ++ be2 ticket))
  else s.answer src .loadOpen (refusedWith .noTicket)

/-- LOAD-DATA reaches the SL and begins its application (R53). -/
def State.slLoadData (src : Source) (bytes : List Byte) (s : State) : State :=
  match s.sl.loadingSlot with
  | some (n, _) => s.withSl { s.sl with inFlight := some ⟨n, bytes⟩ }
  | none => s.answer src .loadData (refusedWith .noLoad)

/-- How a LOAD-CLOSE ends a load (R58). -/
def Load.closing (l : Load) : LoadEnd :=
  if l.tracking.ended then .complete
  else if l.remaining.isNone then .failed .noEnd
  else .failed .short

/-- LOAD-CLOSE reaches the SL (R58, R64). -/
def State.slLoadClose (src : Source) (s : State) : State :=
  match s.sl.loadingSlot with
  | some (n, l) =>
    ((s.withSl (s.sl.set n (l.slotAfter l.closing))).loadDone l.closing).answer src .loadClose
      (okWith (encSlotName n ++ encSlotState (l.slotAfter l.closing) ++ encFailReason l.closing.reason
        ++ be2 l.records.length ++ be2 l.clamps))
  | none => s.answer src .loadClose (refusedWith .noLoad)

/-- The slot LOAD-ABORT drops: the one that carries the CUED ticket and is not PLAYING (R59). -/
def State.abortTarget (s : State) : Option SlotName :=
  ((cuedEntry s.qm.queue).bind (fun e => s.sl.carrying e.ticket)).filter (fun n => !(s.sl.get n).isPlaying)

/-- LOAD-ABORT reaches the SL (R59). -/
def State.slLoadAbort (src : Source) (s : State) : State :=
  match s.abortTarget with
  | some n => (s.withSl (s.sl.set n .empty)).answer src .loadAbort (okWith (encSlotName n))
  | none => s.answer src .loadAbort (refusedWith .noLoad)

/-! ### Meanings -/

/-- LOAD-OPEN (R52). -/
def execLoadOpen (src : Source) (ticket count order : Nat) (s : State) : Result :=
  .next (s.command src .loadOpen true (State.slLoadOpen src ticket count order))

/-- LOAD-DATA (R53). -/
def execLoadData (src : Source) (bytes : List Byte) (s : State) : Result :=
  .next (s.command src .loadData (loadDataLength bytes.length) (State.slLoadData src bytes))

/-- The end of a LOAD-DATA's application (R57). -/
def execLoadDataEnd (s : State) : Result := .next (s.outsideReset State.endLoadData)

/-- LOAD-CLOSE (R58). -/
def execLoadClose (src : Source) (s : State) : Result :=
  .next (s.command src .loadClose true (State.slLoadClose src))

/-- LOAD-ABORT (R59). -/
def execLoadAbort (src : Source) (s : State) : Result :=
  .next (s.command src .loadAbort true (State.slLoadAbort src))

end Sys2Proof.Machine
end

