-- ==== Sys2Proof/Machine/Pitch.lean ====
section
/-! DEFINITION. The Pitch Tracker (chapter 5, sections 5.1 and 5.2, and R176). R90 asks for quotients, roots and a
logarithm computed exactly and rounded once: everything here is integer arithmetic, and each comparison is
of exact values (entry 32). -/

namespace Sys2Proof.Machine

/-! ### Level and clip (R88, R89) -/

/-- The sum of the squares of samples. -/
def squareSum (x : List Int) : Nat := (x.map (fun v => v.natAbs * v.natAbs)).sum

/-- The level is at least minus `m` dBFS: 20 log10(rms / 32768) ≥ -m, that is
S^10 × 10^m ≥ (480 × 2^30)^10 for the sum of squares S (R88). -/
def levelAtLeast (sum m : Nat) : Bool := (480 * 2 ^ 30) ^ 10 ≤ sum ^ 10 * 10 ^ m

/-- The level of a frame, -90..0: the floor of 20 log10(rms / 32768), clamped (R88). -/
def frameLevel (x : List Int) : Int :=
  -((((List.range 91).find? (levelAtLeast (squareSum x))).getD 90 : Nat) : Int)

/-- The clip flag: 3 or more samples at either end of the range (R89). -/
def frameClip (x : List Int) : Bool := 3 ≤ x.countP (fun v => v == 32767 || v == -32768)

/-! ### Normalised correlation (R90) -/

/-- The three sums behind c(p): of x(i) × x(i + p), of x(i)², and of x(i + p)², i from 0 to 959 - p. -/
structure Correlation where
  cross : Int
  here : Nat
  there : Nat
  deriving DecidableEq, Repr

/-- The sums at a period p (R90). -/
def correlationAt (x : List Int) (p : Nat) : Correlation :=
  (x.zip (x.drop p)).foldl
    (fun c ab => ⟨c.cross + ab.1 * ab.2, c.here + ab.1.natAbs * ab.1.natAbs, c.there + ab.2.natAbs * ab.2.natAbs⟩)
    ⟨0, 0, 0⟩

/-- The product under c(p)'s root; c(p) is 0 when it is 0 (R90). -/
def Correlation.under (c : Correlation) : Nat := c.here * c.there

/-- c(p) with its sign, squared: numerator; 0 when a sum of squares is 0. -/
def Correlation.signedSquare (c : Correlation) : Int := if c.under = 0 then 0 else c.cross * c.cross.natAbs

/-- The denominator that goes with `signedSquare`. -/
def Correlation.denominator (c : Correlation) : Nat := if c.under = 0 then 1 else c.under

/-- c is less than d, compared exactly through their signed squares. -/
def Correlation.less (c d : Correlation) : Bool :=
  c.signedSquare * d.denominator < d.signedSquare * c.denominator

/-- c(P) is at least 0.60 (R90): the cross sum is positive and 25 × cross² ≥ 9 × product. -/
def Correlation.strong (c : Correlation) : Bool :=
  0 < c.cross && c.under != 0 && 9 * (c.under : Int) ≤ 25 * (c.cross * c.cross)

/-- The best period from 11 to 368: the largest c(p), the smallest p where several share it (R90). -/
def bestPeriod (x : List Int) : Nat × Correlation :=
  (List.range' 12 357).foldl
    (fun best p =>
      let c := correlationAt x p
      if best.2.less c then (p, c) else best)
    (11, correlationAt x 11)

/-! ### Exact numbers with square roots

`Surd rs` holds the numbers that integers and the square roots of `rs` make; its sign is found exactly. -/

/-- A number x + y √a over the roots that follow. -/
def Surd : List Nat → Type
  | [] => Int
  | _ :: rs => Surd rs × Surd rs

/-- An integer as a surd. -/
def Surd.ofInt : (rs : List Nat) → Int → Surd rs
  | [], n => n
  | _ :: rs, n => (Surd.ofInt rs n, Surd.ofInt rs 0)

/-- The sum of two surds. -/
def Surd.add : (rs : List Nat) → Surd rs → Surd rs → Surd rs
  | [], x, y => Int.add x y
  | _ :: rs, x, y => (Surd.add rs x.1 y.1, Surd.add rs x.2 y.2)

/-- A surd times an integer. -/
def Surd.scale : (rs : List Nat) → Int → Surd rs → Surd rs
  | [], k, x => Int.mul k x
  | _ :: rs, k, x => (Surd.scale rs k x.1, Surd.scale rs k x.2)

/-- The product of two surds: (x + y √a)(z + w √a) = (xz + a yw) + (xw + yz) √a. -/
def Surd.mul : (rs : List Nat) → Surd rs → Surd rs → Surd rs
  | [], x, y => Int.mul x y
  | a :: rs, x, y =>
    (Surd.add rs (Surd.mul rs x.1 y.1) (Surd.scale rs a (Surd.mul rs x.2 y.2)),
      Surd.add rs (Surd.mul rs x.1 y.2) (Surd.mul rs x.2 y.1))

/-- The root of the number at a place of the list, times an integer. -/
def Surd.root : (rs : List Nat) → Nat → Int → Surd rs
  | [], _, _ => Int.ofNat 0
  | _ :: rs, 0, k => (Surd.ofInt rs 0, Surd.ofInt rs k)
  | _ :: rs, i + 1, k => (Surd.root rs i k, Surd.ofInt rs 0)

/-- The sign of a surd: of x + y √a, from the signs of x, of y and of x² - a y². -/
def Surd.sign : (rs : List Nat) → Surd rs → Int
  | [], x => Int.sign x
  | a :: rs, x =>
    let sx := Surd.sign rs x.1
    let sy := if a = 0 then 0 else Surd.sign rs x.2
    if sx = 0 then sy
    else if sy = 0 ∨ sx = sy then sx
    else
      sx * Surd.sign rs
        (Surd.add rs (Surd.mul rs x.1 x.1) (Surd.scale rs (-(a : Int)) (Surd.mul rs x.2 x.2)))

/-- A power of a surd, by the binary digits of the exponent. -/
def Surd.pow (rs : List Nat) (x : Surd rs) (n : Nat) : Surd rs :=
  n.bits.reverse.foldl
    (fun acc b =>
      let q := Surd.mul rs acc acc
      if b then Surd.mul rs q x else q)
    (Surd.ofInt rs 1)

/-! ### The refined period and the sung pitch (R90) -/

/-- The refined period as a quotient of two positive numbers over the roots of three products. -/
structure RefinedPeriod where
  rs : List Nat
  num : Surd rs
  den : Surd rs

/-- A whole period, unrefined. -/
def RefinedPeriod.whole (p : Nat) : RefinedPeriod := ⟨[], (Int.ofNat p : Int), (Int.ofNat 1 : Int)⟩

/-- P + (c(P-1) - c(P+1)) / (2 (c(P-1) - 2 c(P) + c(P+1))), or P where that divisor is 0 (R90). Each
c is cross × √d / d for its product d; all three are taken times the product of the three d. -/
def refinePeriod (p : Nat) (before at_ after : Correlation) : RefinedPeriod :=
  let d0 := before.denominator
  let d1 := at_.denominator
  let d2 := after.denominator
  let rs := [d0, d1, d2]
  let c0 := Surd.root rs 0 ((if before.under = 0 then 0 else before.cross) * d1 * d2)
  let c1 := Surd.root rs 1 ((if at_.under = 0 then 0 else at_.cross) * d0 * d2)
  let c2 := Surd.root rs 2 ((if after.under = 0 then 0 else after.cross) * d0 * d1)
  let divisor := Surd.scale rs 2 (Surd.add rs c0 (Surd.add rs (Surd.scale rs (-2) c1) c2))
  let sg := Surd.sign rs divisor
  if sg = 0 then RefinedPeriod.whole p
  else
    let top := Surd.add rs (Surd.scale rs p divisor) (Surd.add rs c0 (Surd.scale rs (-1) c2))
    ⟨rs, Surd.scale rs sg top, Surd.scale rs sg divisor⟩

/-- The sung pitch is at least k cents, from the powers of the period's two parts: with f = 24000 × den / num,
1200 log2(f / 8.1758) + 1/2 ≥ k says 2^(2k-1) × (81758 num)^2400 ≤ (240000000 den)^2400 (R90). -/
def pitchAtLeast (rs : List Nat) (numPower denPower : Surd rs) (k : Nat) : Bool :=
  0 ≤ Surd.sign rs (Surd.add rs denPower (Surd.scale rs (-(2 ^ (2 * k - 1) : Nat)) numPower))

/-- The largest number below `hi` that passes a downward-closed test, given that `lo` passes; each round
halves the distance. -/
def searchLast (test : Nat → Bool) : Nat → Nat → Nat → Nat
  | 0, lo, _ => lo
  | n + 1, lo, hi =>
    if hi ≤ lo + 1 then lo
    else if test ((lo + hi) / 2) then searchLast test n ((lo + hi) / 2) hi
    else searchLast test n lo ((lo + hi) / 2)

/-- The sung pitch of a refined period, where it lies in 3,600..9,600 cents (R90 condition 3). -/
def RefinedPeriod.pitch (r : RefinedPeriod) : Option Int :=
  let numPower := Surd.pow r.rs (Surd.scale r.rs 81758 r.num) 2400
  let denPower := Surd.pow r.rs (Surd.scale r.rs 240000000 r.den) 2400
  let test := pitchAtLeast r.rs numPower denPower
  if test 3600 && !test 9601 then some (searchLast test 14 3600 9601 : Nat) else none

/-- The period refined between samples, for P from 12 to 367 (R90 condition 2). -/
def refinedOf (x : List Int) (p : Nat) (c : Correlation) : RefinedPeriod :=
  if 12 ≤ p ∧ p ≤ 367 then refinePeriod p (correlationAt x (p - 1)) c (correlationAt x (p + 1))
  else RefinedPeriod.whole p

/-- The sung pitch of a frame, present when it is voiced (R90). -/
def sungPitch (threshold : Int) (previous current : List Int) : Option Int :=
  if frameLevel current < threshold then none
  else
    let x := previous ++ current
    let best := bestPeriod x
    if best.2.strong then (refinedOf x best.1 best.2).pitch else none

/-! ### Receiving the microphone input (R86) -/

/-- The sample that bits spell, the most significant first. -/
def sampleOf (bits : List Bool) : Sample := BitVec.ofNat 16 (bits.foldl (fun n b => 2 * n + b.toNat) 0)

/-- A sample of the I2S frame being received is complete: the left channel's while the word clock is low, and the right
channel's, which completes the frame, while it is high (R86). -/
def I2sReceiver.take (r : I2sReceiver) (x : Sample) : I2sReceiver × Option StereoSample :=
  match r.wordClock, r.left with
  | some true, some l => ({ r with left := none }, some (l, x))
  | some true, none => (r, none)
  | _, _ => ({ r with left := some x }, none)

/-- A data bit joins the sample being received, its most significant bit first; the 16th completes the sample, and later
ones are not part of one (R86). -/
def I2sReceiver.data (r : I2sReceiver) (bit : Bool) : I2sReceiver × Option StereoSample :=
  if r.begun = false ∨ 16 ≤ r.bits.length then (r, none)
  else
    let next := { r with bits := r.bits ++ [bit] }
    if next.bits.length = 16 then next.take (sampleOf next.bits) else (next, none)

/-- The word clock has changed: the next bit begins the other channel's sample, and a first change to low begins the
first I2S frame. A sample that had fewer than 16 bits is a free value (R86; entry 48). -/
def I2sReceiver.change (r : I2sReceiver) (level : Bool) : I2sReceiver × Option StereoSample :=
  let closed := if r.begun ∧ r.bits.length < 16 then r.take (Config.shortSample r.bits) else (r, none)
  ({ closed.1 with begun := closed.1.begun || !level, bits := [], wordClock := some level }, closed.2)

/-- One rising edge of the bit clock: its bit belongs to the sample before a change of the word clock seen with it, since a
sample starts one bit clock after the change (R86). -/
def I2sReceiver.edge (r : I2sReceiver) (e : BitClockEdge) : I2sReceiver × Option StereoSample :=
  let taken := r.data e.bit
  if r.wordClock = some (!e.wordClock) then
    let changed := taken.1.change e.wordClock
    (changed.1, taken.2.or changed.2)
  else ({ taken.1 with wordClock := some e.wordClock }, taken.2)

/-- The PT with its receiver moved on; where that begins the first I2S frame after reset, the first analysis frame begins with
it and the stage key is latched for it (R86, R87; entry 31). -/
def PitchTracker.received (p : PitchTracker) (r : I2sReceiver) (stageKey : Int) : PitchTracker :=
  { p with receiver := r, latchedKey := if r.begun && !p.receiver.begun then stageKey else p.latchedKey }

/-! ### Completion of an analysis frame (R87, R91, R176) -/

/-- The pitch report of a lane's completed frame (R91). -/
def pitchReport (threshold key : Int) (previous current : List Sample) : PitchReport where
  level := frameLevel (current.map BitVec.toInt)
  clip := frameClip (current.map BitVec.toInt)
  pitch := sungPitch threshold (previous.map BitVec.toInt) (current.map BitVec.toInt)
  key := key

/-- The samples of one lane of a stereo frame (R86). -/
def laneSamples (l : Lane) (frame : List StereoSample) : List Sample :=
  frame.map (fun x =>
    match l with
    | .zero => x.1
    | .one => x.2)

/-- A lane of the PT at a completion: the frame becomes the previous one, the newest report is replaced, and
the clip hold-off takes the clip decision (R87, R176). -/
def PitchLane.complete (threshold key : Int) (frame : List StereoSample) (l : Lane) (t : PitchLane) : PitchLane :=
  let report := pitchReport threshold key t.previous (laneSamples l frame)
  ⟨laneSamples l frame, some report, !report.clip⟩

/-- The hold-off of an ARMED lane whose frame is clipped raises MIC-CLIP (R176). -/
def PitchLane.alerts (threshold key : Int) (frame : List StereoSample) (l : Lane) (t : PitchLane) : Bool :=
  t.armed && (pitchReport threshold key t.previous (laneSamples l frame)).clip

/-- The PT after a completion: the samples past the frame begin the next one, and the stage key is latched
for it (R87, R91). -/
def PitchTracker.complete (p : PitchTracker) (threshold stageKey : Int) (all : List StereoSample) : PitchTracker where
  receiver := p.receiver
  inProgress := all.drop Config.frameSamples
  latchedKey := stageKey
  lanes := p.lanes.map (PitchLane.complete threshold p.latchedKey (all.take Config.frameSamples))

/-- MIC-CLIP for a lane, where its hold-off raises it (R176). -/
def State.micClip (s : State) (l : Lane) (all : List StereoSample) : State :=
  if PitchLane.alerts s.ps.profile.voiceThreshold s.pt.latchedKey (all.take Config.frameSamples) l
      (s.pt.lanes.get l)
  then s.raiseAll (.micClip l) else s

end Sys2Proof.Machine
end

