-- ==== Sys2Proof/Machine/Score.lean ====
section
/-! DEFINITION. The Score Unit (chapter 5, sections 5.3 to 5.9) and the completion of an analysis frame. -/

namespace Sys2Proof.Machine

/-! ### The active note (R95) -/

/-- A NOTE record of the PLAYING slot with its record position. -/
structure NoteAt where
  position : Nat
  start : Nat
  duration : Nat
  number : Nat
  part : PartTag
  deriving DecidableEq, Repr

/-- The notes of a song in record order (R49). -/
def Song.notes (g : Song) : List NoteAt :=
  g.records.zipIdx.filterMap fun r =>
    match r.1 with
    | .note st dur num part => some ⟨r.2, st, dur, num, part⟩
    | .line _ _ _ _ _ => none
    | .syl _ _ _ => none
    | .mark _ _ => none

/-- The part tag applies to the lane (R95). -/
def partApplies : SongMode → Lane → PartTag → Bool
  | .solo, _, _ => true
  | .duet, _, .both => true
  | .duet, .zero, .p1 => true
  | .duet, .one, .p2 => true
  | .duet, .zero, .p2 => false
  | .duet, .one, .p1 => false

/-- The note is a candidate of the lane at song time t (R95). -/
def NoteAt.candidateFor (n : NoteAt) (mode : SongMode) (l : Lane) (t : Nat) : Bool :=
  n.start ≤ t && t < n.start + n.duration && partApplies mode l n.part

/-- The note a lane would score against at song time t: of two candidates in SOLO mode, the P1 note
(R95). -/
def laneNote (notes : List NoteAt) (mode : SongMode) (l : Lane) (t : Nat) : Option NoteAt :=
  let found := notes.filter (fun n => n.candidateFor mode l t)
  (found.find? (fun n => n.part == .p1)).or found.head?

/-- The lane's active note: none where the candidate starts before the resume time (R95). DEDUCED, entry 49: of two
candidates in SOLO mode the P1 note is taken first and then held against the resume time, so a P1 note that starts before it
leaves no active note though the P2 note starts at or after it. -/
def activeNote (notes : List NoteAt) (mode : SongMode) (l : Lane) (t : Nat) (resume : Option Nat) : Option NoteAt :=
  (laneNote notes mode l t).filter (fun n => resume.all (fun r => r ≤ n.start))

/-! ### Frame quality (R96 to R98) -/

/-- The deviation used: folded onto the nearest octave of the reference where the fold is on (R97). -/
def deviation (fold : Bool) (d : Int) : Int := if fold then (d + 600) % 1200 - 600 else d

/-- The frame quality of a scored frame during a note, 0..8 (R96, R98). -/
def frameQuality (tolerance : Nat) (fold : Bool) (report : PitchReport) (number : Nat) : Nat :=
  match report.pitch with
  | none => 0
  | some s =>
    let d := (deviation fold (s - 100 * (number + report.key))).natAbs
    if d ≤ tolerance then 8
    else if d < 2 * tolerance then 8 * (2 * tolerance - d) / tolerance
    else 0

/-! ### Notes (R99 to R102) -/

/-- The grade of an accuracy (R100). -/
def gradeOf (accuracy : Nat) : Grade :=
  if 90 ≤ accuracy then .perfect
  else if 70 ≤ accuracy then .good
  else if 40 ≤ accuracy then .fair
  else .miss

/-- One more note of a grade (R100). -/
def GradeCounts.add (c : GradeCounts) : Grade → GradeCounts
  | .perfect => { c with perfect := c.perfect + 1 }
  | .good => { c with good := c.good + 1 }
  | .fair => { c with fair := c.fair + 1 }
  | .miss => { c with miss := c.miss + 1 }

/-- The grade of a closing note: its accuracy is floor(100 h / (8 n)) (R100). -/
def OpenNote.grade (n : OpenNote) : Grade := gradeOf (100 * n.hits / (8 * n.frames))

/-- PERFECT and GOOD add 1 to the streak, FAIR and MISS set it to 0 (R101). -/
def streakAfter (streak : Nat) : Grade → Nat
  | .perfect => streak + 1
  | .good => streak + 1
  | .fair => 0
  | .miss => 0

/-- The lane is full for a closing note (R100). -/
def ScoreLane.full (k : ScoreLane) (n : OpenNote) : Bool :=
  Config.maxGraded ≤ k.graded || Config.maxSongFrames < k.frameCount + n.frames

/-- The last 16 pairs, the oldest dropped first (R102). -/
def appendRecent (r : List (Nat × Grade)) (p : Nat × Grade) : List (Nat × Grade) :=
  (if 16 ≤ r.length then r.tail else r) ++ [p]

/-- The lane's open note closes: it is graded, or discarded by a full lane (R100 to R102). -/
def ScoreLane.close (k : ScoreLane) : ScoreLane :=
  match k.openNote with
  | none => k
  | some n =>
    if k.full n then { k with openNote := none }
    else
      { k with
        openNote := none
        hitSum := k.hitSum + n.hits
        frameCount := k.frameCount + n.frames
        graded := k.graded + 1
        counts := k.counts.add n.grade
        streak := streakAfter k.streak n.grade
        maxStreak := max k.maxStreak (streakAfter k.streak n.grade)
        recent := appendRecent k.recent (n.start, n.grade) }

/-- The note opens with no frame counted (R99 step 2). -/
def NoteAt.opened (n : NoteAt) : OpenNote := ⟨n.position, n.start, n.duration, n.number, n.part, 0, 0⟩

/-- The open note with one more frame of a quality (R99 step 3). -/
def OpenNote.count (o : OpenNote) (q : Nat) : OpenNote := { o with frames := o.frames + 1, hits := o.hits + q }

/-- The lane's open note is another note than the frame's active note: notes are told apart by record
position (R99 step 1). -/
def ScoreLane.leaves (k : ScoreLane) (active : Option NoteAt) : Bool :=
  k.openNote.any (fun o => active.all (fun n => n.position != o.position))

/-- A report is scored against the lane's active note: close, open, count (R99). -/
def ScoreLane.score (k : ScoreLane) (active : Option NoteAt) (quality : NoteAt → Nat) : ScoreLane :=
  let closed := if k.leaves active then k.close else k
  match active with
  | none => closed
  | some n => { closed with openNote := some ((closed.openNote.getD n.opened).count (quality n)) }

/-- A voiced report makes its lane engaged (R94). -/
def ScoreLane.engage (k : ScoreLane) (voiced : Bool) : ScoreLane := { k with engaged := k.engaged || voiced }

/-! ### The song score and the finals (R103, R104, R107) -/

/-- The song score: floor(1000 Q / (8 N)), absent when N is 0 or the lane is not engaged (R103). -/
def ScoreLane.songScore (k : ScoreLane) : Option Nat :=
  if k.frameCount = 0 ∨ !k.engaged then none else some (1000 * k.hitSum / (8 * k.frameCount))

/-- The finals of a lane (R104). -/
def ScoreLane.finals (k : ScoreLane) : Finals := ⟨k.songScore, k.graded, k.counts, k.maxStreak⟩

/-- The finals of both lanes. -/
def ScoreUnit.finals (u : ScoreUnit) : PerLane Finals := u.lanes.map (fun _ k => k.finals)

/-- At finalisation each lane's open note is closed (R107). -/
def ScoreUnit.closeNotes (u : ScoreUnit) : ScoreUnit := { u with lanes := u.lanes.map (fun _ k => k.close) }

/-- A stage reset discards each lane's open note (R108). -/
def ScoreUnit.discardNotes (u : ScoreUnit) : ScoreUnit :=
  { u with lanes := u.lanes.map (fun _ k => { k with openNote := none }) }

/-- A seek discards each lane's open note and sets the resume time (R105). -/
def ScoreUnit.seek (u : ScoreUnit) (t : Nat) : ScoreUnit :=
  { u with lanes := u.lanes.map (fun _ k => { k with openNote := none, resumeTime := some t }) }

/-- A song start clears both lanes, takes the song mode and sets the start guard (R93). -/
def ScoreUnit.songStart (_u : ScoreUnit) (duet : Bool) : ScoreUnit :=
  ⟨⟨ScoreLane.afterReset, ScoreLane.afterReset⟩, if duet then .duet else .solo, true⟩

/-! ### Taking the reports (R94) -/

/-- One lane's report scored at song time t (R94, R99). -/
def State.scoreLane (s : State) (g : Song) (l : Lane) (k : ScoreLane) (report : PitchReport) : ScoreLane :=
  (k.engage report.pitch.isSome).score (activeNote g.notes s.su.mode l s.sc.songTime k.resumeTime)
    (fun n => frameQuality s.ps.profile.tolerance s.ps.profile.fold report n.number)

/-- A song with no record, which a stage PLAYING without a PLAYING slot would score against. -/
def Song.blank : Song := ⟨0, [], DerivedIndex.fresh, 0⟩

/-- The SU takes the two newest reports: passed over under the start guard or outside PLAYING, scored
otherwise (R93, R94). -/
def State.takeReports (s : State) : ScoreUnit :=
  if s.su.guarded then { s.su with guarded := false }
  else if s.sc.stage = .playing then
    { s.su with
      lanes := s.su.lanes.map (fun l k =>
        match (s.pt.lanes.get l).newest with
        | some report => s.scoreLane (s.sl.playingSong.getD Song.blank) l k report
        | none => k) }
  else s.su

/-- An I2S frame joins the frame in progress; the 480th completes it (R86, R91, R94, R176). -/
def State.sample (s : State) (new : StereoSample) : State :=
  let all := s.pt.inProgress ++ [new]
  if all.length < Config.frameSamples then s.withPt { s.pt with inProgress := all }
  else
    let reported :=
      ((s.micClip .zero all).micClip .one all).withPt
        (s.pt.complete s.ps.profile.voiceThreshold s.sc.key all)
    reported.withSu reported.takeReports

/-- One rising edge of the microphone input's bit clock (R86); the one that begins the first I2S frame latches the stage key for
the first analysis frame (R87). -/
def State.bitClock (s : State) (e : BitClockEdge) : State :=
  let r := s.pt.receiver.edge e
  let t := s.withPt (s.pt.received r.1 s.sc.key)
  match r.2 with
  | some x => t.sample x
  | none => t

/-- The microphone input runs; each 480th sample completes an analysis frame (R86, R91). -/
def execAnalysisFrameCompletion (edges : List BitClockEdge) (s : State) : Result :=
  .next (s.outsideReset (fun t => edges.foldl State.bitClock t))

end Sys2Proof.Machine
end

