-- ==== Sys2Proof/Machine/Lyric.lean ====
section
/-! DEFINITION. The Lyric Renderer: the glyph table, the layout of lines, the row schedule, scrolling, rebuilds
and the result card (chapter 6). What it draws is in Machine/Picture.lean. -/

namespace Sys2Proof.Machine

/-! ### The glyph table (R110, R111) -/

/-- The glyph of a code, if its place is loaded (R110). -/
def glyphAt (table : List GlyphPlace) (code : Nat) : Option Glyph :=
  (table.find? (fun p => p.code == code)).map (fun p => p.glyph)

/-- The table with a place loaded, codes rising (R111). -/
def loadGlyph (g : GlyphPlace) : List GlyphPlace → List GlyphPlace
  | [] => [g]
  | p :: rest =>
    if g.code < p.code then g :: p :: rest
    else if g.code = p.code then g :: rest
    else p :: loadGlyph g rest

/-- The canonical form of the glyph table: codes strictly rising, each at most 1023. -/
abbrev glyphTableWf (table : List GlyphPlace) : Prop :=
  (table.map (fun p => p.code)).Pairwise (· < ·) ∧ ∀ p ∈ table, p.code ≤ Config.maxGlyphCode

/-- A mask row with the bits at or beyond the mask width read as off (R169). -/
def maskedRow (width : Nat) (row : MaskRow) : MaskRow := (row >>> (32 - width)) <<< (32 - width)

/-- The glyph that GLYPH-LOAD's parameters give (R111, R169). -/
def glyphOf (p : GlyphParams) : Glyph := ⟨p.advance, p.maskWidth, p.rows.map (maskedRow p.maskWidth)⟩

/-- GLYPH-LOAD's values are accepted (R111). -/
def glyphAccepted (p : GlyphParams) : Bool :=
  p.code ≤ Config.maxGlyphCode && 1 ≤ p.advance && p.advance ≤ 32 && p.maskWidth ≤ 32

/-- A code laid out: the glyph's advance, or 16 for a missing glyph (R112, R116). -/
def layGlyph (table : List GlyphPlace) (code : Nat) : LaidGlyph :=
  ⟨code, ((glyphAt table code).map (fun g => g.advance)).getD Config.missingAdvance⟩

/-- The width of laid-out glyphs (R116). -/
def glyphsWidth (gs : List LaidGlyph) : Nat := (gs.map (fun g => g.advance)).sum

/-- How many codes have an unloaded place, counting repeats (R112). -/
def missingIn (table : List GlyphPlace) (gs : List LaidGlyph) : Nat :=
  gs.countP (fun g => (glyphAt table g.code).isNone)

/-! ### Geometry (R114) -/

/-- The lyric zone's geometry (R114). -/
structure Geometry where
  width : Nat
  zoneTop : Nat
  zoneHeight : Nat
  pitch : Nat
  rows : Nat
  margin : Nat
  deriving DecidableEq, Repr

/-- The row pitch (R114). -/
def FrameSettings.pitch (f : FrameSettings) : Nat := 32 + f.rowGap

/-- The effective row count (R114). -/
def FrameSettings.effectiveRows (f : FrameSettings) : Nat :=
  if f.rows * f.pitch ≤ f.hl then f.rows else f.hl / f.pitch

/-- The geometry of the live values (R114). -/
def VideoCompositor.geometry (v : VideoCompositor) : Geometry where
  width := v.width
  zoneTop := v.height - v.live.hl - v.live.hm
  zoneHeight := v.live.hl
  pitch := v.live.pitch
  rows := v.live.effectiveRows
  margin := v.live.margin

/-- The zone width Wz (R114). -/
def Geometry.zoneWidth (g : Geometry) : Nat := g.width - 2 * g.margin

/-- The zone edge: the first column not drawn by a row (R114). -/
def Geometry.edge (g : Geometry) : Nat := g.width - g.margin

/-- The row top of row k, from 1 (R114). -/
def Geometry.rowTop (g : Geometry) (k : Nat) : Nat :=
  g.zoneTop + (g.zoneHeight - g.rows * g.pitch) / 2 + (k - 1) * g.pitch

/-- The layout flag: no row fits (R114). -/
def Geometry.noRows (g : Geometry) : Bool := g.rows == 0

/-! ### Laying out a line (R116, R117) -/

/-- A syllable of a line before layout: its codes, its absolute start and its duration (R48). -/
structure Syllable where
  glyphs : List LaidGlyph
  start : Nat
  duration : Nat
  deriving DecidableEq, Repr

/-- The syllable's width (R116). -/
def Syllable.width (y : Syllable) : Nat := glyphsWidth y.glyphs

/-- The width of syllables (R116). -/
def syllablesWidth (ys : List Syllable) : Nat := (ys.map Syllable.width).sum

/-- The index entry of a line, by its number from 1 (R51). -/
def Song.line (g : Song) (number : Nat) : Option LineEntry :=
  if number = 0 then none else g.index.lines[number - 1]?

/-- The part tag of a line's record. -/
def Song.linePart (g : Song) (e : LineEntry) : PartTag :=
  match g.records[e.position]? with
  | some (.line _ _ _ part _) => part
  | _ => .both

/-- The record is a LINE. -/
def CueRecord.isLine : CueRecord → Bool
  | .line _ _ _ _ _ => true
  | .syl _ _ _ => false
  | .note _ _ _ _ => false
  | .mark _ _ => false

/-- The syllables of a line: the SYL records that follow its LINE (R47, R48). -/
def Song.syllables (g : Song) (table : List GlyphPlace) (e : LineEntry) : List Syllable :=
  ((g.records.drop (e.position + 1)).takeWhile (fun r => !r.isLine)).filterMap fun r =>
    match r with
    | .syl off dur codes => some ⟨codes.map (layGlyph table), e.start + off, dur⟩
    | .line _ _ _ _ _ => none
    | .note _ _ _ _ => none
    | .mark _ _ => none

/-- Syllables placed one after another from a column (R116). -/
def placeFrom (row x : Nat) : List Syllable → List LaidSyllable
  | [] => []
  | y :: rest => ⟨row, x, y.glyphs, y.start, y.duration⟩ :: placeFrom row (x + y.width) rest

/-- The leading syllables whose widths fit in the columns left. -/
def fitting (left : Nat) : List Syllable → List Syllable
  | [] => []
  | y :: rest => if y.width ≤ left then y :: fitting (left - y.width) rest else []

/-- The column a text of a width starts at: centred, or at the margin where it is wider than the zone (R116,
R117). -/
def Geometry.startColumn (g : Geometry) (width : Nat) : Nat :=
  if width ≤ g.zoneWidth then g.margin + (g.zoneWidth - width) / 2 else g.margin

/-- One row of a line placed on its own, with the syllables that are drawn: a row wider than the zone that
holds several syllables draws those that fit whole (R117). -/
def Geometry.placeRow (g : Geometry) (row : Nat) (ys : List Syllable) : List LaidSyllable :=
  placeFrom row (g.startColumn (syllablesWidth ys))
    (if syllablesWidth ys ≤ g.zoneWidth ∨ ys.length ≤ 1 then ys else fitting g.zoneWidth ys)

/-- The syllables of the first row of a line that is split: the longest run that fits, or the first syllable
alone (R117). -/
def Geometry.firstRow (g : Geometry) (ys : List Syllable) : List Syllable :=
  if (fitting g.zoneWidth ys).isEmpty then ys.take 1 else fitting g.zoneWidth ys

/-- A line's layout: how many rows it takes, its placed syllables, and whether any is cut or left undrawn
(R116, R117). -/
structure LineLayout where
  rows : Nat
  placed : List LaidSyllable
  cut : Bool
  deriving DecidableEq, Repr

/-- A line laid out (R116, R117). -/
def Geometry.layOut (g : Geometry) (ys : List Syllable) : LineLayout :=
  if syllablesWidth ys ≤ g.zoneWidth then ⟨1, g.placeRow 0 ys, false⟩
  else if g.rows < 2 then ⟨1, g.placeRow 0 ys, true⟩
  else
    let top := g.firstRow ys
    let rest := ys.drop top.length
    if rest.isEmpty then ⟨1, g.placeRow 0 top, true⟩
    else
      ⟨2, g.placeRow 0 top ++ g.placeRow 1 rest,
        g.zoneWidth < syllablesWidth top || g.zoneWidth < syllablesWidth rest⟩

/-- The missing glyphs of a line's layout (R112, entry 26). -/
def LineLayout.missing (table : List GlyphPlace) (lay : LineLayout) : Nat :=
  (lay.placed.map (fun y => missingIn table y.glyphs)).sum

/-! ### The row schedule (R118 to R125) -/

/-- What the LR reads at a frame start beside its own record. -/
structure LyricInputs where
  time : Nat
  song : Song
  geometry : Geometry
  lead : Nat
  tail : Nat
  scrollFrames : Nat
  deriving DecidableEq, Repr

/-- The rows held by lines of the stack, spent lines included (R121). -/
def rowsHeld (stack : List ShownLine) : Nat := (stack.map (fun l => l.rows)).sum

/-- The free rows (R121). -/
def LyricInputs.freeRows (i : LyricInputs) (stack : List ShownLine) : Nat := i.geometry.rows - rowsHeld stack

/-- The line's time has passed: t is at or after its end + tail (R119, R120). -/
def LyricInputs.past (i : LyricInputs) (number : Nat) : Bool :=
  (i.song.line number).any (fun e => e.stop + i.tail ≤ i.time)

/-- The layout of a line of the song. -/
def LyricInputs.layOut (i : LyricInputs) (table : List GlyphPlace) (number : Nat) : LineLayout :=
  match i.song.line number with
  | some e => i.geometry.layOut (i.song.syllables table e)
  | none => ⟨1, [], false⟩

/-- The shown line a layout makes. -/
def LyricInputs.shown (i : LyricInputs) (number : Nat) (lay : LineLayout) : ShownLine :=
  ⟨number, lay.rows, ((i.song.line number).map i.song.linePart).getD .both, false, lay.placed⟩

/-- The counts a layout with which a line joins the stack adds to (R112, R117). -/
def LyricRenderer.countLayout (r : LyricRenderer) (lay : LineLayout) : LyricRenderer :=
  { r with
    missing := stopCount (r.missing + lay.missing r.glyphs)
    overflow := if lay.cut then stopCount (r.overflow + 1) else r.overflow }

/-- A line joins the bottom of the stack (R121, R122). -/
def LyricRenderer.join (r : LyricRenderer) (i : LyricInputs) (number : Nat) (lay : LineLayout) : LyricRenderer :=
  { r.countLayout lay with stack := r.stack ++ [i.shown number lay] }

/-- A scroll of a distance begins, unless the scroll frames field is 0 (R124). -/
def beginScroll (frames distance : Nat) : Option Scroll :=
  if frames = 0 ∨ distance = 0 then none else some ⟨distance, 0, frames⟩

/-- The Scroll stage (R124). -/
def LyricRenderer.scrollStage (r : LyricRenderer) (i : LyricInputs) : LyricRenderer :=
  match r.scroll with
  | none => r
  | some c =>
    if c.done + 1 < c.frames then { r with scroll := some { c with done := c.done + 1 } }
    else { r with scroll := beginScroll i.scrollFrames r.pendingShift, pendingShift := 0 }

/-- The stack with the lines whose time has passed marked spent (R119). -/
def LyricInputs.markSpent (i : LyricInputs) (stack : List ShownLine) : List ShownLine :=
  stack.map (fun l => { l with spent := l.spent || i.past l.number })

/-- The Leave stage: spent lines at the top are removed, and their rows start or extend a scroll (R119, R124,
R125). -/
def LyricRenderer.leaveStage (r : LyricRenderer) (i : LyricInputs) : LyricRenderer :=
  let marked := i.markSpent r.stack
  let freed := rowsHeld (marked.takeWhile (fun l => l.spent))
  let left := marked.dropWhile (fun l => l.spent)
  match r.scroll with
  | none => { r with stack := left, scroll := beginScroll i.scrollFrames freed }
  | some _ => { r with stack := left, pendingShift := r.pendingShift + freed }

/-- The line's lead window has begun: start - lead is at or before t (R120). -/
def LyricInputs.due (i : LyricInputs) (e : LineEntry) : Bool := e.start ≤ i.time + i.lead

/-- The numbers of the lines that become due, from a line on (R120). -/
def LyricInputs.dueFrom (i : LyricInputs) (number : Nat) : List Nat :=
  (((i.song.index.lines.drop (number - 1)).takeWhile i.due).zipIdx number).map (fun x => x.2)

/-- The next line after some became due: 513 past the last (R120). -/
def LyricInputs.nextAfter (i : LyricInputs) (number : Nat) : Nat :=
  if i.song.index.lines.length < number then 513 else number

/-- The Due stage; with no effective row a due line is passed by (R114, R120). -/
def LyricRenderer.dueStage (r : LyricRenderer) (i : LyricInputs) : LyricRenderer :=
  let due := i.dueFrom r.nextLine
  { r with
    waiting := if i.geometry.noRows then r.waiting else r.waiting ++ due
    nextLine := i.nextAfter (r.nextLine + due.length) }

/-- The Drop stage (R120). -/
def LyricRenderer.dropStage (r : LyricRenderer) (i : LyricInputs) : LyricRenderer :=
  { r with
    waiting := r.waiting.filter (fun n => !i.past n)
    dropped := stopCount (r.dropped + r.waiting.countP i.past) }

/-- The stack after lines leave from the top until the free rows are enough (R122). -/
def LyricInputs.evict (i : LyricInputs) (need : Nat) : List ShownLine → List ShownLine
  | [] => []
  | l :: rest => if need ≤ i.freeRows (l :: rest) then l :: rest else i.evict need rest

/-- The line has started (R121, R122). -/
def LyricInputs.started (i : LyricInputs) (number : Nat) : Bool :=
  (i.song.line number).any (fun e => e.start ≤ i.time)

/-- The Place stage over the pending lines given, oldest first: by room when nothing scrolls, by force when the
line has started and the free rows are not enough, and otherwise placing stops (R121, R122, entry 25). -/
def LyricRenderer.place (r : LyricRenderer) (i : LyricInputs) : List Nat → LyricRenderer
  | [] => { r with waiting := [] }
  | n :: rest =>
    let lay := i.layOut r.glyphs n
    if lay.rows ≤ i.freeRows r.stack then
      if r.scroll.isNone && r.pendingShift == 0 then (r.join i n lay).place i rest
      else { r with waiting := n :: rest }
    else if i.started n then
      (({ r with scroll := none, pendingShift := 0, stack := i.evict lay.rows r.stack }).join i n lay).place i rest
    else { r with waiting := n :: rest }

/-- The times of the INTERLUDE marks of a song (R123). -/
def Song.interludes (g : Song) : List Nat :=
  g.records.filterMap fun r =>
    match r with
    | .mark .interlude t => some t
    | _ => none

/-- The interlude hold is on (R123): after the latest INTERLUDE mark at or before t, the first line that starts
at the mark or later is not yet in its lead window, or there is none. -/
def LyricInputs.holds (i : LyricInputs) : Bool :=
  match (i.song.interludes.filter (fun m => m ≤ i.time)).max? with
  | none => false
  | some m =>
    match i.song.index.lines.find? (fun e => m ≤ e.start) with
    | none => true
    | some e => !i.due e

/-- The Place stage, which the interlude hold stops (R121, R123). -/
def LyricRenderer.placeStage (r : LyricRenderer) (i : LyricInputs) : LyricRenderer :=
  if i.holds || i.geometry.noRows then r else r.place i r.waiting

/-- The five stages of a frame start in ROWS mode while the stage is PLAYING (R118). -/
def LyricRenderer.schedule (r : LyricRenderer) (i : LyricInputs) : LyricRenderer :=
  ((((r.scrollStage i).leaveStage i).dueStage i).dropStage i).placeStage i

/-! ### Rebuild (R128) -/

/-- The numbers of the candidate lines of a rebuild, in line order (R128). -/
def LyricInputs.candidates (i : LyricInputs) : List Nat :=
  ((i.song.index.lines.zipIdx 1).filter (fun x => i.due x.1 && i.time < x.1.stop + i.tail)).map (fun x => x.2)

/-- The candidates taken, walking from the latest backward while their rows fit, with their layouts, oldest
first (R128 steps 3 and 4). -/
def LyricInputs.takeBack (i : LyricInputs) (table : List GlyphPlace) (left : Nat) :
    List Nat → List (Nat × LineLayout) → List (Nat × LineLayout)
  | [], taken => taken
  | n :: rest, taken =>
    let lay := i.layOut table n
    if lay.rows ≤ left then i.takeBack table (left - lay.rows) rest ((n, lay) :: taken) else taken

/-- The first line whose lead window has not begun, or 513 (R128 step 5). -/
def LyricInputs.firstNotDue (i : LyricInputs) : Nat :=
  match i.song.index.lines.findIdx? (fun e => !i.due e) with
  | some k => k + 1
  | none => 513

/-- The rows laid out afresh for a song time, with no animation (R128). -/
def LyricRenderer.rebuild (r : LyricRenderer) (i : LyricInputs) : LyricRenderer :=
  let taken := i.takeBack r.glyphs i.geometry.rows i.candidates.reverse []
  taken.foldl (fun acc x => acc.join i x.1 x.2)
    { r with stack := [], waiting := [], scroll := none, pendingShift := 0, nextLine := i.firstNotDue }

/-- A song start sets ROWS, clears the overflow and dropped counts and the card, and rebuilds (R113, R128). -/
def LyricRenderer.songStart (r : LyricRenderer) (i : LyricInputs) : LyricRenderer :=
  ({ r with mode := .rows, card := none, overflow := 0, dropped := 0 }).rebuild i

/-- A change to EMPTY or CARD empties the rows (R113); the interlude hold stays as the last frame start found it (R132). -/
def LyricRenderer.emptied (r : LyricRenderer) (mode : DisplayMode) : LyricRenderer :=
  { r with
    mode := mode, stack := [], waiting := [], scroll := none, pendingShift := 0, nextLine := 1, card := none }

/-- A stage reset leaves the zone empty: the counts and the glyph table stay, and everything else LYRIC-STATUS reports is
emptied, the interlude hold with it (R81, R132). -/
def LyricRenderer.stageReset (r : LyricRenderer) : LyricRenderer := { r.emptied .empty with holdOn := false }

/-! ### The result card (R130, R131) -/

/-- Decimal digits, codes 48 to 57, of a number of at most `n` digits. -/
def digitCodes : Nat → Nat → List Nat
  | 0, _ => []
  | n + 1, v => if v < 10 then [48 + v] else digitCodes n (v / 10) ++ [48 + v % 10]

/-- Decimal digits with no leading zeros, 0 written as one 0 (R130, R131); no number the part writes has more
than six. -/
def decimalCodes (v : Nat) : List Nat := digitCodes 20 v

/-- The score text of a lane; an absent score is two dashes (R131). -/
def scoreText : Option Nat → List Nat
  | none => [45, 45]
  | some v => decimalCodes (v / 10) ++ [46, 48 + v % 10]

/-- A name and a score text, or the score text alone (R130). -/
def laneText (name : Option (List Nat)) (score : Option Nat) : List Nat :=
  match name with
  | none => scoreText score
  | some n => n ++ [32] ++ scoreText score

/-- A title, or the song number as digits where it is empty (R130, R134). -/
def titleText (title : List Nat) (song : Nat) : List Nat := if title.isEmpty then decimalCodes song else title

/-- The texts of the result card's rows (R130). -/
def cardTexts (h : HistoryRecord) : List (List Nat) :=
  [titleText h.title h.song, laneText h.singerName h.lanes.lane0.score]
    ++ (if h.lanes.lane1.score.isSome ∨ h.duet then [laneText h.partnerName h.lanes.lane1.score] else [])

/-- A text laid out as one card row (R130). -/
def Geometry.cardRow (g : Geometry) (table : List GlyphPlace) (text : List Nat) : TextRow :=
  ⟨g.startColumn (glyphsWidth (text.map (layGlyph table))), text.map (layGlyph table)⟩

/-- The result card built from the newest history record; with no effective row it has none (R114, R130). -/
def LyricRenderer.buildCard (r : LyricRenderer) (g : Geometry) (newest : Option HistoryRecord) : LyricRenderer :=
  let rows :=
    if g.noRows then []
    else ((newest.map cardTexts).getD []).map (g.cardRow r.glyphs)
  { r with
    card := some rows
    missing := stopCount (r.missing + (rows.map (fun t => missingIn r.glyphs t.glyphs)).sum) }

/-- The LR shows the result card (R79, R113). -/
def LyricRenderer.showCard (r : LyricRenderer) (g : Geometry) (newest : Option HistoryRecord) : LyricRenderer :=
  (r.emptied .card).buildCard g newest

/-! ### The LR and the part -/

/-- What the LR reads, at a song time. -/
def State.lyricInputs (s : State) (t : Nat) : LyricInputs where
  time := t
  song := s.sl.playingSong.getD Song.blank
  geometry := s.vc.geometry
  lead := s.ps.profile.lead
  tail := s.ps.profile.tail
  scrollFrames := s.vc.live.scrollFrames

/-- The newest history record (R7). -/
def QueueManager.newest (q : QueueManager) : Option HistoryRecord := q.history.getLast?

/-- The values whose change makes the LR lay out again: W, Hl, rows, row gap and margin (R115). -/
structure LayoutKey where
  width : Nat
  zoneHeight : Nat
  rows : Nat
  rowGap : Nat
  margin : Nat
  deriving DecidableEq, Repr

/-- The layout values in effect (R115). -/
def VideoCompositor.layoutKey (v : VideoCompositor) : LayoutKey :=
  ⟨v.width, v.live.hl, v.live.rows, v.live.rowGap, v.live.margin⟩

/-- A frame start that changed the layout values lays the zone out again first (R115). -/
def State.relayout (s : State) (before : LayoutKey) : State :=
  if s.vc.layoutKey = before then s
  else
    match s.lr.mode with
    | .rows => s.withLr (s.lr.rebuild (s.lyricInputs s.sc.songTime))
    | .card => s.withLr (s.lr.buildCard s.vc.geometry s.qm.newest)
    | .empty => s

/-- The LR's record after the work of a frame start in ROWS mode: the stages run while the stage is PLAYING, and
the interlude hold is found (R118, R123, R129, R132). -/
def LyricRenderer.rowsFrame (r : LyricRenderer) (i : LyricInputs) (playing : Bool) : LyricRenderer :=
  { (if playing then r.schedule i else r) with holdOn := i.holds }

/-- The LR's work at a frame start (R115, R118); outside the ROWS mode it finds no interlude hold (R123, R132; entry 42). -/
def State.lyricFrame (s : State) (before : LayoutKey) : State :=
  let u := s.relayout before
  if u.lr.mode = .rows then
    u.withLr (u.lr.rowsFrame (u.lyricInputs u.sc.songTime) (u.sc.stage == .playing))
  else u.withLr { u.lr with holdOn := false }

/-! ### Commands (R111, R132) -/

/-- GLYPH-LOAD reaches the LR (R111, R135). -/
def State.lrGlyphLoad (src : Source) (p : GlyphParams) (s : State) : State :=
  if glyphAccepted p then
    ((s.withLr { s.lr with glyphs := loadGlyph ⟨p.code, glyphOf p⟩ s.lr.glyphs }).markTicker).answer src .glyphLoad
      (okWith (be2 p.code ++ encBool (glyphAt s.lr.glyphs p.code).isSome))
  else s.answer src .glyphLoad (refusedWith .badValue)

/-- A shown line in LYRIC-STATUS (R132). -/
def shownPayload (l : ShownLine) : List Byte := be2 l.number ++ be1 l.rows ++ encBool l.spent

/-- The scroll in LYRIC-STATUS: each number 0 when absent (R169). -/
def scrollPayload : Option Scroll → List Byte
  | some c => be1 c.distance ++ be1 c.done ++ be1 c.frames
  | none => be1 0 ++ be1 0 ++ be1 0

/-- LYRIC-STATUS's payload (R132, R169). -/
def lyricPayload (r : LyricRenderer) (g : Geometry) : List Byte :=
  encDisplayMode r.mode ++ be1 g.rows ++ encBool g.noRows ++ be1 g.pitch ++ be2 g.zoneWidth
    ++ be1 r.stack.length ++ r.stack.flatMap shownPayload ++ be2 r.waiting.length ++ be2 r.nextLine
    ++ scrollPayload r.scroll ++ be1 r.pendingShift ++ encBool r.holdOn ++ be2 r.missing
    ++ be2 r.overflow ++ be2 r.dropped

/-- LYRIC-STATUS answered (R132). -/
def State.lrStatus (src : Source) (s : State) : State :=
  s.answer src .lyricStatus (okWith (lyricPayload s.lr s.vc.geometry))

/-- GLYPH-LOAD (R111). -/
def execGlyphLoad (src : Source) (p : GlyphParams) (s : State) : Result :=
  .next (s.command src .glyphLoad true (State.lrGlyphLoad src p))

/-- LYRIC-STATUS (R132). -/
def execLyricStatus (src : Source) (s : State) : Result :=
  .next (s.command src .lyricStatus true (State.lrStatus src))

end Sys2Proof.Machine
end

