-- ==== Sys2Proof/Machine/Ticker.lean ====
section
/-! DEFINITION. The Ticker Unit (chapter 7, section 7.1). What it draws is in Machine/Picture.lean. -/

namespace Sys2Proof.Machine

/-- The cycle: the text followed by three spaces; an empty text has none (R133). -/
def tickerCycle (text : List Nat) : List Nat := if text.isEmpty then [] else text ++ [32, 32, 32]

/-- The cycle width (R133). -/
def TickerUnit.cycleWidth (u : TickerUnit) : Nat := u.advances.sum

/-- The text of one entry (R134). -/
def QueueManager.tickerEntry (q : QueueManager) (e : Entry) : List Nat :=
  decimalCodes e.ticket ++ [32] ++ titleText e.title e.song
    ++ ((q.nameAt e.singer).map (fun n => 32 :: n)).getD []

/-- The entries the ticker takes: the first K that are neither PLAYING nor HELD (R134). -/
def QueueManager.tickerEntries (q : QueueManager) (k : Nat) : List Entry :=
  (q.queue.filter (fun e => e.state == .cued || e.state == .waiting)).take k

/-- The ticker text: the entries taken, three spaces apart, or the idle text (R134). -/
def QueueManager.tickerText (q : QueueManager) (k : Nat) (idle : List Nat) : List Nat :=
  if (q.tickerEntries k).isEmpty then idle
  else List.intercalate [32, 32, 32] ((q.tickerEntries k).map q.tickerEntry)

/-- An offset brought into the cycle; 0 when the cycle is empty (R134, R137). -/
def wrapOffset (offset width : Nat) : Nat := if width = 0 then 0 else offset % width

/-- A rebuild (R134). -/
def TickerUnit.rebuild (u : TickerUnit) (q : QueueManager) (table : List GlyphPlace) (k : Nat) : TickerUnit :=
  let text := q.tickerText k u.idleText
  let advances := (tickerCycle text).map (fun c => (layGlyph table c).advance)
  { u with
    text := text
    advances := advances
    offset := wrapOffset u.offset advances.sum
    builtCount := k
    mark := false }

/-- The offset moves left by the ticker speed (R137). -/
def TickerUnit.advance (u : TickerUnit) (speed : Nat) : TickerUnit :=
  { u with offset := wrapOffset (u.offset + speed) u.cycleWidth }

/-- The TU's work at a frame start: a rebuild where the mark is set or the ticker count differs from the built
count, then the advance (R135, R137). -/
def State.tickerFrame (s : State) : State :=
  let k := s.ps.profile.tickerCount
  let built := if s.tu.mark || k != s.tu.builtCount then s.tu.rebuild s.qm s.lr.glyphs k else s.tu
  s.withTu (built.advance s.ps.profile.tickerSpeed)

/-- IDLE-TEXT's list is accepted (R136). -/
def idleAccepted (text : List Nat) : Bool := text.length ≤ 48 && text.all (fun c => c ≤ Config.maxGlyphCode)

/-- IDLE-TEXT reaches the TU (R136). -/
def State.tuIdleText (src : Source) (text : List Nat) (s : State) : State :=
  if idleAccepted text then
    (s.withTu { s.tu with idleText := text, mark := true }).answer src .idleText (okWith (be1 text.length))
  else s.answer src .idleText (refusedWith .badValue)

/-- IDLE-TEXT (R136). -/
def execIdleText (src : Source) (text : List Nat) (s : State) : Result :=
  .next (s.command src .idleText true (State.tuIdleText src text))

end Sys2Proof.Machine
end

