-- ==== Sys2Proof/Machine/Meter.lean ====
section
/-! DEFINITION. The Meter Unit: the meter window state built at a frame start (chapter 7, section 7.2). What it
draws is in Machine/Picture.lean. -/

namespace Sys2Proof.Machine

/-- A band of the meter before it is built: where it stands in the zone and the lanes it shows (R139). -/
structure BandPlace where
  top : Nat
  height : Nat
  lanes : List Lane
  deriving DecidableEq, Repr

/-- The bands of a meter zone (R139). -/
def bandPlaces (mode : SongMode) (hm : Nat) : List BandPlace :=
  match mode with
  | .solo => [⟨0, hm, [.zero, .one]⟩]
  | .duet => [⟨0, hm / 2, [.zero]⟩, ⟨hm / 2, hm - hm / 2, [.one]⟩]

/-- The band shows notes of this part tag (R139). -/
def BandPlace.shows (b : BandPlace) (mode : SongMode) (part : PartTag) : Bool :=
  b.lanes.any (fun l => partApplies mode l part)

/-- The range of two part tags together, leaving out absent ones (R139). -/
def joinRange : Option (Nat × Nat) → Option (Nat × Nat) → Option (Nat × Nat)
  | none, y => y
  | x, none => x
  | some x, some y => some (min x.1 y.1, max x.2 y.2)

/-- The low and high note of a band (R139). -/
def BandPlace.notes (b : BandPlace) (mode : SongMode) (x : DerivedIndex) : Option (Nat × Nat) :=
  let pick := fun (part : PartTag) (r : Option (Nat × Nat)) => if b.shows mode part then r else none
  joinRange (pick .p1 x.p1.range) (joinRange (pick .p2 x.p2.range) (pick .both x.both.range))

/-- The step of a band of a height over a note span (R140). -/
def bandStep (height rows : Nat) : Nat := clampNat 2 12 ((height - 8) / rows)

/-- The pad of a band, 0 where it would be negative (R140). -/
def bandPad (height rows : Nat) : Nat := (height - 8 - rows * bandStep height rows) / 2

/-- The line below the band's top at which a pitch stands (R140). -/
def pitchLine (high step pad : Nat) (m : Int) : Int := 4 + pad + (100 * high + 49 - m) * step / 100

/-- The width of the bar field (R139). -/
def barField (width : Nat) : Nat := width - 192

/-- The column of song time u at song time t (R141). -/
def timeColumn (width future t : Nat) (u : Int) : Int :=
  192 + barField width * (u - t + 1000) / (future + 1000)

/-- A note is in the window (R141). -/
def NoteAt.inWindow (n : NoteAt) (t future : Nat) : Bool :=
  n.start < t + future && t < n.start + n.duration + 1000

/-- The grade of the newest pair with a start (R142). -/
def gradeAt (recent : List (Nat × Grade)) (start : Nat) : Option Grade :=
  (recent.reverse.find? (fun p => p.1 == start)).map (fun p => p.2)

/-- The colour of a bar: the grade in the first of the band's lanes that has it, or the unsung colour (R142). -/
def barColour (u : ScoreUnit) (lanes : List Lane) (n : NoteAt) : BarColour :=
  match lanes.findSome? (fun l => gradeAt (u.lanes.get l).recent n.start) with
  | some g => .graded g
  | none => .unsung (if u.mode = .duet then n.part else .both)

/-- The bar of a note (R141, R142): columns `left` to `right - 1`, at least one. -/
def barOf (u : ScoreUnit) (lanes : List Lane) (width future t : Nat) (n : NoteAt) : Bar :=
  let left := timeColumn width future t n.start
  ⟨left, max (left + 1) (timeColumn width future t ((n.start + n.duration : Nat) : Int)), n.number,
    barColour u lanes n⟩

/-- A marker's pitch folded into the band's range (R143). -/
def foldMarker (low high : Nat) (m : Int) : Int :=
  if m < 100 * low - 50 then m + 1200 * ((100 * low - 50 - m + 1199) / 1200)
  else if 100 * high + 49 < m then m - 1200 * ((m - (100 * high + 49) + 1199) / 1200)
  else m

/-- The sung marker of a lane in a band (R143). -/
def markerOf (fold : Bool) (low high step pad : Nat) (l : Lane) (report : PitchReport) : Option Marker :=
  report.pitch.map fun s =>
    let m := s - 100 * report.key
    ⟨l, pitchLine high step pad (if fold then foldMarker low high m else m)⟩

/-- A band built (R139 to R143); one whose part tags have no note draws no bars and no markers. DESIGN CHOICE, entry 45: such
a band holds step 2 and pad 0, the least R138 admits, where R140 gives them from a note span alone; nothing reads them. -/
def State.buildBand (s : State) (g : Song) (b : BandPlace) : Band :=
  match b.notes s.su.mode g.index with
  | none => ⟨b.top, b.height, none, 2, 0, [], []⟩
  | some (low, high) =>
    let rows := high - low + 1
    let step := bandStep b.height rows
    let pad := bandPad b.height rows
    let shown := (g.notes.filter (fun n =>
      b.shows s.su.mode n.part && n.inWindow s.sc.songTime s.ps.profile.future)).take 96
    let markers :=
      if s.sc.stage = .playing then
        b.lanes.filterMap (fun l =>
          (s.pt.lanes.get l).newest.bind (markerOf s.ps.profile.fold low high step pad l))
      else []
    ⟨b.top, b.height, some (low, high), step, pad,
      shown.map (barOf s.su b.lanes s.vc.width s.ps.profile.future s.sc.songTime), markers⟩

/-- The key indicator (R144). -/
def keyText (k : Int) : List Nat :=
  if k = 0 then [48] else if 0 < k then [43, 48 + k.natAbs] else [45, 48 + k.natAbs]

/-- A section's name in capital letters (R144). -/
def sectionText : MarkKind → List Nat
  | .verse => [86, 69, 82, 83, 69]
  | .chorus => [67, 72, 79, 82, 85, 83]
  | .bridge => [66, 82, 73, 68, 71, 69]
  | .interlude => []
  | .finish => []

/-- The section marks of a song at or before t, in record order (R144). -/
def Song.sections (g : Song) (t : Nat) : List (Nat × MarkKind) :=
  g.records.filterMap fun r =>
    match r with
    | .mark .verse u => if u ≤ t then some (u, .verse) else none
    | .mark .chorus u => if u ≤ t then some (u, .chorus) else none
    | .mark .bridge u => if u ≤ t then some (u, .bridge) else none
    | _ => none

/-- The latest of section marks, the later record where times are equal (R144). -/
def latestSection (marks : List (Nat × MarkKind)) : Option MarkKind :=
  (marks.foldl
    (fun (best : Option (Nat × MarkKind)) m =>
      match best with
      | none => some m
      | some b => if b.1 ≤ m.1 then some m else some b)
    none).map (fun m => m.2)

/-- A lane's text row: its live score, two spaces, its streak (R144). -/
def laneRow (k : ScoreLane) : List Nat := scoreText k.songScore ++ [32, 32] ++ decimalCodes k.streak

/-- The text rows of the label strip (R144). -/
def State.meterTexts (s : State) (g : Song) : List (List Nat) :=
  let label := (latestSection (g.sections s.sc.songTime)).map sectionText
  [laneRow s.su.lanes.lane0]
    ++ (if s.su.mode = .duet ∨ s.su.lanes.lane1.songScore.isSome then [laneRow s.su.lanes.lane1] else [])
    ++ [keyText s.sc.key ++ (label.map (fun n => [32, 32] ++ n)).getD []]

/-- The meter window state built afresh (R138 to R144). -/
def State.buildMeter (s : State) : MeterWindow :=
  let g := s.sl.playingSong.getD Song.blank
  { bands := (bandPlaces s.su.mode s.vc.live.hm).map (s.buildBand g)
    nowColumn := timeColumn s.vc.width s.ps.profile.future s.sc.songTime s.sc.songTime
    textRows := (s.meterTexts g).map (fun row => row.map (layGlyph s.lr.glyphs)) }

/-- The MU's work at a frame start (R138). -/
def State.meterFrame (s : State) : State :=
  match s.sc.stage with
  | .playing => s.withMu ⟨if s.vc.live.hm = 0 then none else some s.buildMeter⟩
  | .paused => s.withMu ⟨if s.vc.live.hm = 0 then none else some s.buildMeter⟩
  | .ending => s
  | .ready => s.withMu ⟨none⟩
  | .starting => s.withMu ⟨none⟩
  | .result => s.withMu ⟨none⟩
  | .resetting => s.withMu ⟨none⟩

end Sys2Proof.Machine
end

