-- ==== Sys2Proof/Machine/Profile.lean ====
section
/-! DEFINITION. The Profile Store: the fields by number, their ranges, setting, reading and saving (chapter
11). -/

namespace Sys2Proof.Machine

/-! ### The fields (R178) -/

/-- A component of a colour, in the order of R178. -/
inductive Component where
  | red
  | green
  | blue
  deriving DecidableEq, Repr

/-- A colour of a colour set, in the order of R178. -/
inductive SetColour where
  | unsung
  | sung
  | outline
  deriving DecidableEq, Repr

/-- An overlay zone, in the order R178 numbers the alphas. -/
inductive Zone where
  | ticker
  | lyric
  | meter
  deriving DecidableEq, Repr

/-- The profile fields (R178). -/
inductive ProfileField where
  | tolerance
  | fold
  | voiceThreshold
  | lead
  | tail
  | rows
  | rowGap
  | margin
  | scrollFrames
  | ht
  | hl
  | hm
  | setColour (set : PartTag) (which : SetColour) (c : Component)
  | gradeColour (g : Grade) (c : Component)
  | background (c : Component)
  | glyphAlpha (z : Zone)
  | boxAlpha (z : Zone)
  | tickerCount
  | tickerSpeed
  | future
  | promote
  | syncWindow
  | resultHold
  | defaultRights
  deriving DecidableEq, Repr

/-- The component of a colour field, by its place in the order red, green, blue. -/
def componentOf (i : Nat) : Component := if i % 3 = 0 then .red else if i % 3 = 1 then .green else .blue

/-- The colour of a set, by its place. -/
def setColourOf (i : Nat) : SetColour := if i % 3 = 0 then .unsung else if i % 3 = 1 then .sung else .outline

/-- The set of a colour field, by its place: P1, P2, BOTH. -/
def setOf (i : Nat) : PartTag := if i = 0 then .p1 else if i = 1 then .p2 else .both

/-- The grade of a grade colour, by its place. -/
def gradeOfPlace (i : Nat) : Grade :=
  if i = 0 then .perfect else if i = 1 then .good else if i = 2 then .fair else .miss

/-- The zone of an alpha, by its place. -/
def zoneOf (i : Nat) : Zone := if i = 0 then .ticker else if i = 1 then .lyric else .meter

/-- The field of a number among those that are not colours or alphas (R178). -/
def plainFieldOf : Nat → Option ProfileField
  | 0x00 => some .tolerance
  | 0x01 => some .fold
  | 0x02 => some .voiceThreshold
  | 0x08 => some .lead
  | 0x09 => some .tail
  | 0x0A => some .rows
  | 0x0B => some .rowGap
  | 0x0C => some .margin
  | 0x0D => some .scrollFrames
  | 0x10 => some .ht
  | 0x11 => some .hl
  | 0x12 => some .hm
  | 0x58 => some .tickerCount
  | 0x59 => some .tickerSpeed
  | 0x5A => some .future
  | 0x60 => some .promote
  | 0x61 => some .syncWindow
  | 0x62 => some .resultHold
  | 0x63 => some .defaultRights
  | _ => none

/-- The field of a number, if the table of R178 has it. -/
def fieldOf (n : Nat) : Option ProfileField :=
  if 0x20 ≤ n ∧ n ≤ 0x3A then
    some (.setColour (setOf ((n - 0x20) / 9)) (setColourOf ((n - 0x20) / 3)) (componentOf (n - 0x20)))
  else if 0x40 ≤ n ∧ n ≤ 0x4B then some (.gradeColour (gradeOfPlace ((n - 0x40) / 3)) (componentOf (n - 0x40)))
  else if 0x4C ≤ n ∧ n ≤ 0x4E then some (.background (componentOf (n - 0x4C)))
  else if 0x50 ≤ n ∧ n ≤ 0x55 then
    some (if n % 2 = 0 then .glyphAlpha (zoneOf ((n - 0x50) / 2)) else .boxAlpha (zoneOf ((n - 0x50) / 2)))
  else plainFieldOf n

/-! ### Ranges and clamping (R178, R179) -/

/-- The range of a field: a plain range, 0 or a range above a gap, or the four low bits of a mask. -/
inductive FieldRange where
  | plain (lo hi : Int)
  | zeroOr (lo hi : Int)
  | lowBits
  deriving DecidableEq, Repr

/-- The range of each field (R178). -/
def ProfileField.range : ProfileField → FieldRange
  | .tolerance => .plain 20 200
  | .fold => .plain 0 1
  | .voiceThreshold => .plain (-60) (-20)
  | .lead => .plain 500 4000
  | .tail => .plain 0 2000
  | .rows => .plain 1 4
  | .rowGap => .plain 0 16
  | .margin => .plain 0 128
  | .scrollFrames => .plain 0 15
  | .ht => .zeroOr 24 64
  | .hl => .plain 0 720
  | .hm => .zeroOr 48 160
  | .setColour _ _ _ => .plain 0 255
  | .gradeColour _ _ => .plain 0 255
  | .background _ => .plain 0 255
  | .glyphAlpha _ => .plain 0 16
  | .boxAlpha _ => .plain 0 16
  | .tickerCount => .plain 1 5
  | .tickerSpeed => .plain 1 8
  | .future => .plain 1500 6000
  | .promote => .zeroOr 2 60
  | .syncWindow => .plain 20 200
  | .resultHold => .plain 0 30000
  | .defaultRights => .lowBits

/-- A value clamped into a range: to the nearer limit, and across a gap to the nearer allowed value, halfway
going up (R178, R179). -/
def FieldRange.clamp (v : Int) : FieldRange → Int
  | .plain lo hi => clampInt lo hi v
  | .zeroOr lo hi => if v < lo then (if lo ≤ 2 * v then lo else 0) else min hi v
  | .lowBits => v % 16

/-! ### Reading and writing a field -/

/-- A component of a colour. -/
def Rgb.get (c : Rgb) : Component → Nat
  | .red => c.red
  | .green => c.green
  | .blue => c.blue

/-- A colour with a component changed. -/
def Rgb.put (c : Rgb) (k : Component) (v : Nat) : Rgb :=
  match k with
  | .red => { c with red := v }
  | .green => { c with green := v }
  | .blue => { c with blue := v }

/-- A colour of a set. -/
def ColourSet.get (s : ColourSet) : SetColour → Rgb
  | .unsung => s.unsung
  | .sung => s.sung
  | .outline => s.outline

/-- A set with one colour changed. -/
def ColourSet.put (s : ColourSet) (k : SetColour) (c : Rgb) : ColourSet :=
  match k with
  | .unsung => { s with unsung := c }
  | .sung => { s with sung := c }
  | .outline => { s with outline := c }

/-- A colour set of the settings. -/
def FrameSettings.set (f : FrameSettings) : PartTag → ColourSet
  | .p1 => f.setP1
  | .p2 => f.setP2
  | .both => f.setBoth

/-- The settings with one colour set changed. -/
def FrameSettings.putSet (f : FrameSettings) (p : PartTag) (s : ColourSet) : FrameSettings :=
  match p with
  | .p1 => { f with setP1 := s }
  | .p2 => { f with setP2 := s }
  | .both => { f with setBoth := s }

/-- A grade colour of the settings. -/
def FrameSettings.grade (f : FrameSettings) : Grade → Rgb
  | .perfect => f.perfect
  | .good => f.good
  | .fair => f.fair
  | .miss => f.miss

/-- The settings with one grade colour changed. -/
def FrameSettings.putGrade (f : FrameSettings) (g : Grade) (c : Rgb) : FrameSettings :=
  match g with
  | .perfect => { f with perfect := c }
  | .good => { f with good := c }
  | .fair => { f with fair := c }
  | .miss => { f with miss := c }

/-- A glyph alpha of the settings. -/
def FrameSettings.glyphAlpha (f : FrameSettings) : Zone → Nat
  | .ticker => f.tickerGlyph
  | .lyric => f.lyricGlyph
  | .meter => f.meterGlyph

/-- A box alpha of the settings. -/
def FrameSettings.boxAlpha (f : FrameSettings) : Zone → Nat
  | .ticker => f.tickerBox
  | .lyric => f.lyricBox
  | .meter => f.meterBox

/-- The settings with one glyph alpha changed. -/
def FrameSettings.putGlyphAlpha (f : FrameSettings) (z : Zone) (v : Nat) : FrameSettings :=
  match z with
  | .ticker => { f with tickerGlyph := v }
  | .lyric => { f with lyricGlyph := v }
  | .meter => { f with meterGlyph := v }

/-- The settings with one box alpha changed. -/
def FrameSettings.putBoxAlpha (f : FrameSettings) (z : Zone) (v : Nat) : FrameSettings :=
  match z with
  | .ticker => { f with tickerBox := v }
  | .lyric => { f with lyricBox := v }
  | .meter => { f with meterBox := v }

/-- The value a field of the live profile holds; a frame-latched field's staged value (R179). -/
def Profile.get (p : Profile) : ProfileField → Int
  | .tolerance => p.tolerance
  | .fold => p.fold.toNat
  | .voiceThreshold => p.voiceThreshold
  | .lead => p.lead
  | .tail => p.tail
  | .rows => p.staged.rows
  | .rowGap => p.staged.rowGap
  | .margin => p.staged.margin
  | .scrollFrames => p.staged.scrollFrames
  | .ht => p.staged.ht
  | .hl => p.staged.hl
  | .hm => p.staged.hm
  | .setColour s k c => (((p.staged.set s).get k).get c : Nat)
  | .gradeColour g c => ((p.staged.grade g).get c : Nat)
  | .background c => (p.staged.background.get c : Nat)
  | .glyphAlpha z => (p.staged.glyphAlpha z : Nat)
  | .boxAlpha z => (p.staged.boxAlpha z : Nat)
  | .tickerCount => p.tickerCount
  | .tickerSpeed => p.tickerSpeed
  | .future => p.future
  | .promote => p.promote
  | .syncWindow => p.syncWindow
  | .resultHold => p.resultHold
  | .defaultRights => p.defaultRights.toNat

/-- The live profile with the staged settings changed. -/
def Profile.stage (p : Profile) (f : FrameSettings) : Profile := { p with staged := f }

/-- The live profile with a field changed to a value of its range. -/
def Profile.put (p : Profile) (v : Int) : ProfileField → Profile
  | .tolerance => { p with tolerance := v.toNat }
  | .fold => { p with fold := v != 0 }
  | .voiceThreshold => { p with voiceThreshold := v }
  | .lead => { p with lead := v.toNat }
  | .tail => { p with tail := v.toNat }
  | .rows => p.stage { p.staged with rows := v.toNat }
  | .rowGap => p.stage { p.staged with rowGap := v.toNat }
  | .margin => p.stage { p.staged with margin := v.toNat }
  | .scrollFrames => p.stage { p.staged with scrollFrames := v.toNat }
  | .ht => p.stage { p.staged with ht := v.toNat }
  | .hl => p.stage { p.staged with hl := v.toNat }
  | .hm => p.stage { p.staged with hm := v.toNat }
  | .setColour s k c =>
    p.stage (p.staged.putSet s ((p.staged.set s).put k (((p.staged.set s).get k).put c v.toNat)))
  | .gradeColour g c => p.stage (p.staged.putGrade g ((p.staged.grade g).put c v.toNat))
  | .background c => p.stage { p.staged with background := p.staged.background.put c v.toNat }
  | .glyphAlpha z => p.stage (p.staged.putGlyphAlpha z v.toNat)
  | .boxAlpha z => p.stage (p.staged.putBoxAlpha z v.toNat)
  | .tickerCount => { p with tickerCount := v.toNat }
  | .tickerSpeed => { p with tickerSpeed := v.toNat }
  | .future => { p with future := v.toNat }
  | .promote => { p with promote := v.toNat }
  | .syncWindow => { p with syncWindow := v.toNat }
  | .resultHold => { p with resultHold := v.toNat }
  | .defaultRights => { p with defaultRights := BitVec.ofNat 4 v.toNat }

/-! ### The commands (R179, R180) -/

/-- The reply of a field: its number and the value now held (R179). -/
def fieldPayload (n : Nat) (v : Int) : List Byte := be1 n ++ encProfileValue v

/-- PROFILE-SET reaches the PS (R179). -/
def State.psSet (src : Source) (n : Nat) (v : Int) (s : State) : State :=
  match fieldOf n with
  | none => s.answer src .profileSet (refusedWith .badValue)
  | some f =>
    (s.withPs { s.ps with profile := s.ps.profile.put (f.range.clamp v) f }).answer src .profileSet
      (okWith (fieldPayload n (f.range.clamp v)) { clamped := f.range.clamp v != v })

/-- PROFILE-GET reaches the PS (R179). -/
def State.psGet (src : Source) (n : Nat) (s : State) : State :=
  s.answer src .profileGet
    (match fieldOf n with
     | none => refusedWith .badValue
     | some f => okWith (fieldPayload n (s.ps.profile.get f)))

/-- PROFILE-SAVE reaches the PS: the live profile is copied, and the nonvolatile copy is invalid until the save
ends; no reply yet (R180). -/
def State.psSave (s : State) : State :=
  s.withPs { s.ps with saving := some s.ps.profile, nonvolatile := none }

/-- The end of the PROFILE-SAVE in progress: the comparison matches or not (R180); with none in progress nothing
changes (entry 3). -/
def State.endSave (matched : Bool) (s : State) : State :=
  match s.ps.saving with
  | none => s
  | some copy =>
    if matched then
      (s.withPs { s.ps with saving := none, nonvolatile := some copy, defaulted := false }).answer .player
        .profileSave (okWith [])
    else
      (s.withPs { s.ps with saving := none, nonvolatile := none }).answer .player .profileSave
        (refusedWith .saveFailed)

/-- PROFILE-SET (R179). -/
def execProfileSet (src : Source) (field : Nat) (value : Int) (s : State) : Result :=
  .next (s.command src .profileSet true (State.psSet src field value))

/-- PROFILE-GET (R179). -/
def execProfileGet (src : Source) (field : Nat) (s : State) : Result :=
  .next (s.command src .profileGet true (State.psGet src field))

/-- PROFILE-SAVE (R180). -/
def execProfileSave (src : Source) (s : State) : Result :=
  .next (s.command src .profileSave true State.psSave)

/-- The end of a PROFILE-SAVE (R180). -/
def execProfileSaveEnd (matched : Bool) (s : State) : Result :=
  .next (s.outsideReset (State.endSave matched))

end Sys2Proof.Machine
end

