-- ==== Sys2Proof/Machine/Picture.lean ====
section
/-! DEFINITION. The overlay of an output frame: what the TU, the LR and the MU draw at a frame start (chapters 6
and 7), and the output pixel (chapter 8). Columns and lines are those of the output picture. -/

namespace Sys2Proof.Machine

/-! ### Drawn text -/

/-- Laid-out glyphs from a column on, at a top line, with the masks the table holds now (R111, R112). -/
def drawGlyphs (table : List GlyphPlace) (y : Int) (sungTo : Option Int) : Int → List LaidGlyph → List DrawnGlyph
  | _, [] => []
  | x, g :: rest => ⟨glyphAt table g.code, x, y, sungTo⟩ :: drawGlyphs table y sungTo (x + g.advance) rest

/-- The glyph's mask covers this pixel; a missing glyph is a hollow box one pixel thick around 16 × 32 (R110,
R112). -/
def DrawnGlyph.covers (g : DrawnGlyph) (line col : Int) : Bool :=
  let r := line - g.y
  let c := col - g.x
  0 ≤ r && r < 32 && 0 ≤ c &&
    match g.image with
    | some m => c < m.maskWidth && ((m.rows[r.toNat]?).getD 0#32).getMsbD c.toNat
    | none => c < 16 && (r == 0 || r == 31 || c == 0 || c == 15)

/-- The pixel is inside the text's clip. -/
def DrawnText.clips (t : DrawnText) (line col : Int) : Bool :=
  t.x0 ≤ col && col < t.x1 && t.y0 ≤ line && line < t.y1

/-- The colour of a mask pixel: sung or unsung by its column (R126, R127). -/
def DrawnGlyph.colour (set : ColourSet) (col : Int) (g : DrawnGlyph) : Rgb :=
  match g.sungTo with
  | none => set.sung
  | some c => if col < c then set.sung else set.unsung

/-- The colours the text's mask pixels put on a place. -/
def DrawnText.masks (t : DrawnText) (line col : Int) : List Rgb :=
  if t.clips line col then
    (t.glyphs.filter (fun g => g.covers line col)).map (DrawnGlyph.colour t.set col)
  else []

/-- The eight places that touch a place across a side or a corner (R127). -/
def neighbours (line col : Int) : List (Int × Int) :=
  [(line - 1, col - 1), (line - 1, col), (line - 1, col + 1), (line, col - 1), (line, col + 1),
   (line + 1, col - 1), (line + 1, col), (line + 1, col + 1)]

/-- The outline colour the text puts on a place: no mask pixel of its own, but touching one (R127; entry 24:
the masks are taken whole, then the outline is clipped). -/
def DrawnText.outlines (t : DrawnText) (line col : Int) : List Rgb :=
  if t.clips line col && !t.glyphs.any (fun g => g.covers line col)
      && (neighbours line col).any (fun p => t.glyphs.any (fun g => g.covers p.1 p.2))
  then [t.set.outline] else []

/-- The colour of a place that several colours fall on: where they differ and no rule orders them, a free
value decides (entry 23). -/
def resolve (line col : Int) : List Rgb → Option Rgb
  | [] => none
  | c :: rest =>
    some (rest.foldl (fun seen d => if d = seen then seen else if Config.overlapWinner line col then d else seen) c)

/-- The colours of the boxes over a place. -/
def boxColours (boxes : List DrawnBox) (line col : Int) : List Rgb :=
  (boxes.filter (fun b => b.x0 ≤ col && col < b.x1 && b.y0 ≤ line && line < b.y1)).map (fun b => b.colour)

/-- The overlay colour of a place of the zone, absent on a box pixel (R155): mask pixels over outline pixels,
and both over the boxes, whose later layers stand over the earlier ones. -/
def ZoneDrawing.colourAt (z : ZoneDrawing) (line col : Int) : Option Rgb :=
  (resolve line col (z.texts.flatMap (fun t => t.masks line col))).or
    ((resolve line col (z.texts.flatMap (fun t => t.outlines line col))).or
      (z.layers.reverse.findSome? (fun boxes => resolve line col (boxColours boxes line col))))

/-- A zone in which nothing is drawn. -/
def ZoneDrawing.blank : ZoneDrawing := ⟨[], []⟩

/-! ### The ticker (R137) -/

/-- The line of the ticker's glyph tops (R137). -/
def tickerTop (ht : Nat) : Int := if 32 ≤ ht then ((ht - 32) / 2 : Nat) else 0

/-- The cycle as laid out at the last rebuild. -/
def TickerUnit.laid (u : TickerUnit) : List LaidGlyph :=
  ((tickerCycle u.text).zip u.advances).map (fun p => ⟨p.1, p.2⟩)

/-- The columns at which copies of the cycle start, up to column W - 1 (R137). -/
def TickerUnit.copies (u : TickerUnit) (width : Nat) : List Int :=
  (List.range ((width + u.offset + u.cycleWidth - 1) / u.cycleWidth)).map
    (fun k => (k * u.cycleWidth : Nat) - (u.offset : Int))

/-- What the TU draws (R137). -/
def State.tickerDrawing (s : State) : ZoneDrawing :=
  if s.vc.live.ht = 0 ∨ s.tu.cycleWidth = 0 then ZoneDrawing.blank
  else
    ⟨[], [{ glyphs := (s.tu.copies s.vc.width).flatMap
              (fun x => drawGlyphs s.lr.glyphs (tickerTop s.vc.live.ht) none x s.tu.laid)
            set := s.vc.live.setBoth
            x0 := 0
            x1 := s.vc.width
            y0 := 0
            y1 := s.vc.live.ht }]⟩

/-! ### The lyric zone (R124, R126, R127, R130) -/

/-- The shown lines with how many rows stand above each in the stack. -/
def stackRows : Nat → List ShownLine → List (Nat × ShownLine)
  | _, [] => []
  | k, l :: rest => (k, l) :: stackRows (k + l.rows) rest

/-- How far below its stack place each line is drawn (R124). -/
def LyricRenderer.scrollOffset (r : LyricRenderer) (pitch : Nat) : Nat :=
  (match r.scroll with
    | none => 0
    | some c => c.distance * pitch - pitch * c.distance * c.done / c.frames)
    + r.pendingShift * pitch

/-- The column from which a syllable is unsung at song time t; none when the whole syllable is sung (R126). -/
def LaidSyllable.sungTo (y : LaidSyllable) (t : Nat) : Option Int :=
  if t < y.start then some y.x
  else if y.start + y.duration ≤ t then none
  else some (y.x + glyphsWidth y.glyphs * (t - y.start) / y.duration : Nat)

/-- The colour set of a line of this part tag (R127). -/
def FrameSettings.setFor (f : FrameSettings) (mode : SongMode) (part : PartTag) : ColourSet :=
  match mode with
  | .solo => f.setBoth
  | .duet => f.set part

/-- Text of the lyric zone, clipped at the zone edge and the zone's lines (R114). -/
def VideoCompositor.zoneText (v : VideoCompositor) (set : ColourSet) (glyphs : List DrawnGlyph) : DrawnText where
  glyphs := glyphs
  set := set
  x0 := 0
  x1 := v.geometry.edge
  y0 := v.geometry.zoneTop
  y1 := v.geometry.zoneTop + v.geometry.zoneHeight

/-- A shown line drawn at song time t, with `above` rows before it in the stack (R124, R126, R127). -/
def State.lineDrawing (s : State) (above : Nat) (l : ShownLine) : DrawnText :=
  s.vc.zoneText (s.vc.live.setFor s.su.mode l.part)
    (l.layout.flatMap (fun y =>
      drawGlyphs s.lr.glyphs
        (s.vc.geometry.rowTop (above + y.row + 1) + s.lr.scrollOffset s.vc.geometry.pitch : Nat)
        (y.sungTo s.sc.songTime) y.x y.glyphs))

/-- A row of the result card drawn (R130). -/
def State.cardDrawing (s : State) (k : Nat) (row : TextRow) : DrawnText :=
  s.vc.zoneText s.vc.live.setBoth (drawGlyphs s.lr.glyphs (s.vc.geometry.rowTop (k + 1)) none row.x row.glyphs)

/-- What the LR draws. -/
def State.lyricDrawing (s : State) : ZoneDrawing :=
  if s.vc.geometry.noRows then ZoneDrawing.blank
  else
    match s.lr.mode with
    | .empty => ZoneDrawing.blank
    | .rows =>
      ⟨[], ((stackRows 0 s.lr.stack).filter (fun p => !p.2.spent)).map (fun p => s.lineDrawing p.1 p.2)⟩
    | .card =>
      ⟨[], (((s.lr.card.getD []).take s.vc.geometry.rows).zipIdx).map (fun p => s.cardDrawing p.2 p.1)⟩

/-! ### The meter (R138 to R144) -/

/-- The colour of a bar (R142). -/
def FrameSettings.barColour (f : FrameSettings) : BarColour → Rgb
  | .graded g => f.grade g
  | .unsung set => (f.set set).unsung

/-- A rectangle cut to columns and lines. -/
def DrawnBox.cut (b : DrawnBox) (x0 x1 y0 y1 : Int) : DrawnBox :=
  ⟨max b.x0 x0, min b.x1 x1, max b.y0 y0, min b.y1 y1, b.colour⟩

/-- The meter zone's lines and width, and the live settings it is drawn with. -/
structure MeterPlace where
  width : Nat
  top : Nat
  bottom : Nat
  live : FrameSettings
  deriving DecidableEq, Repr

/-- The meter zone of the live values (R152). -/
def VideoCompositor.meterPlace (v : VideoCompositor) : MeterPlace :=
  ⟨v.width, v.height - v.live.hm, v.height, v.live⟩

/-- A rectangle of a band, in lines below the band's top, cut to the band, the zone and the columns from `x0`
to the picture's edge (R138, R140, R141). -/
def MeterPlace.inBand (m : MeterPlace) (b : Band) (x0 : Int) (r : DrawnBox) : DrawnBox :=
  let top : Int := (m.top + b.top : Nat)
  DrawnBox.cut ⟨r.x0, r.x1, top + r.y0, top + r.y1, r.colour⟩ x0 m.width top
    (min (top + b.height) m.bottom)

/-- The now line of a band (R141). -/
def MeterPlace.nowLine (m : MeterPlace) (now : Int) (b : Band) : DrawnBox :=
  m.inBand b 192 ⟨now, now + 1, 0, b.height, m.live.setBoth.outline⟩

/-- A bar of a band (R140 to R142). -/
def MeterPlace.bar (m : MeterPlace) (b : Band) (r : Bar) : DrawnBox :=
  let high := (b.notes.map (fun n => n.2)).getD 0
  let y : Int := 4 + b.pad + ((high : Int) - r.number) * b.step
  m.inBand b 192 ⟨r.left, r.right, y, y + b.step, m.live.barColour r.colour⟩

/-- The sung marker's colour: the P1 set's sung colour for lane 0, the P2 set's for lane 1 (R143). -/
def FrameSettings.markerColour (f : FrameSettings) : Lane → Rgb
  | .zero => f.setP1.sung
  | .one => f.setP2.sung

/-- A lane's marker of a band: 6 × 6 pixels (R143). -/
def MeterPlace.marker (m : MeterPlace) (now : Int) (b : Band) (k : Marker) : DrawnBox :=
  m.inBand b 0 ⟨now - 2, now + 4, k.line - 2, k.line + 4, m.live.markerColour k.lane⟩

/-- The markers of a lane in all bands. -/
def MeterPlace.markers (m : MeterPlace) (w : MeterWindow) (l : Lane) : List DrawnBox :=
  w.bands.flatMap (fun b => (b.markers.filter (fun k => k.lane == l)).map (m.marker w.nowColumn b))

/-- A text row of the label strip; one that would pass the zone's bottom is not drawn (R144). -/
def MeterPlace.textRow (m : MeterPlace) (table : List GlyphPlace) (j : Nat) (row : List LaidGlyph) : List DrawnText :=
  if m.top + 32 * (j + 1) ≤ m.bottom then
    [{ glyphs := drawGlyphs table (m.top + 32 * j : Nat) none 0 row
       set := m.live.setBoth
       x0 := 0
       x1 := 192
       y0 := m.top
       y1 := m.bottom }]
  else []

/-- What the MU draws of a window state: the now lines, the bars over them, then lane 0's and lane 1's markers
(R141, R143; entry 30). -/
def MeterPlace.drawing (m : MeterPlace) (table : List GlyphPlace) (w : MeterWindow) : ZoneDrawing where
  layers :=
    [w.bands.map (m.nowLine w.nowColumn), w.bands.flatMap (fun b => b.bars.map (m.bar b)),
     m.markers w .zero, m.markers w .one]
  texts := w.textRows.zipIdx.flatMap (fun p => m.textRow table p.2 p.1)

/-- What the MU draws (R138). -/
def State.meterDrawing (s : State) : ZoneDrawing :=
  match s.mu.window with
  | none => ZoneDrawing.blank
  | some w => s.vc.meterPlace.drawing s.lr.glyphs w

/-! ### The picture -/

/-- The three units draw their zones on the live values (R153 step 4). -/
def State.draw (s : State) : State :=
  s.withVc { s.vc with picture := some ⟨s.tickerDrawing, s.lyricDrawing, s.meterDrawing⟩ }

/-- A zone's drawing with its glyph alpha and its box alpha (R155). -/
structure ZoneBlend where
  drawing : ZoneDrawing
  glyphAlpha : Nat
  boxAlpha : Nat
  deriving DecidableEq, Repr

/-- The zone a line of the output picture lies in; none in the clear band (R152). -/
def VideoCompositor.zoneAt (v : VideoCompositor) (p : Picture) (line : Nat) : Option ZoneBlend :=
  if line < v.live.ht then some ⟨p.ticker, v.live.tickerGlyph, v.live.tickerBox⟩
  else if line < v.height - v.live.hl - v.live.hm then none
  else if line < v.height - v.live.hm then some ⟨p.lyric, v.live.lyricGlyph, v.live.lyricBox⟩
  else some ⟨p.meter, v.live.meterGlyph, v.live.meterBox⟩

/-- One component blended at an alpha (R155). -/
def blendComponent (alpha overlay video : Nat) : Nat := (alpha * overlay + (16 - alpha) * video + 8) / 16

/-- A pixel blended at an alpha (R155). -/
def blend (alpha : Nat) (overlay video : Rgb) : Rgb :=
  ⟨blendComponent alpha overlay.red video.red, blendComponent alpha overlay.green video.green,
    blendComponent alpha overlay.blue video.blue⟩

/-- The video value of an output pixel, from the input pixel of the same place where the current input frame
supplies one (R151). -/
def VideoCompositor.videoValue (v : VideoCompositor) (input : Option Rgb) : Rgb :=
  match v.lock with
  | .locked => input.getD v.live.background
  | .lost => v.live.background

/-- A video value with the overlay of its place blended onto it (R155); before the first output frame start there is no
overlay. -/
def State.overlaid (s : State) (video : Rgb) (line col : Nat) : Rgb :=
  match s.vc.picture.bind (fun p => s.vc.zoneAt p line) with
  | none => video
  | some z =>
    match z.drawing.colourAt line col with
    | some c => blend z.glyphAlpha c video
    | none => blend z.boxAlpha s.vc.live.background video

/-- The output pixel at a line and column, with the input pixel of that place; the output frame is W pixels by H lines, and
nothing is shown outside it (R151, R155). -/
def State.outputPixel (s : State) (input : Option Rgb) (line col : Nat) : Option Rgb :=
  if line < s.vc.height ∧ col < s.vc.width then some (s.overlaid (s.vc.videoValue input) line col) else none

end Sys2Proof.Machine
end

