-- ==== Sys2Proof/Machine/Video.lean ====
section
/-! DEFINITION. The Video Compositor: measuring the input, lock, loss and regain, the output frame start, the zones
(chapter 8). -/

namespace Sys2Proof.Machine

/-! ### Measuring the input (R147) -/

/-- A measurement at its frame start. -/
def Measurement.fresh : Measurement := ⟨0, 0, 0, true⟩

/-- One more line of the measured frame, with its pixel count. -/
def Measurement.line (m : Measurement) (pixels : Nat) : Measurement where
  elapsed := m.elapsed
  lines := m.lines + 1
  firstLine := if m.lines = 0 then pixels else m.firstLine
  uniform := if m.lines = 0 then m.uniform else m.uniform && pixels == m.firstLine

/-- The frame a measurement closes: its size and whether it is in range (R147). DESIGN CHOICE, entry 46: a frame that held no
line has no first line, and the width 0 that `Measurement.fresh` gave it stands. -/
def Measurement.close (m : Measurement) : MeasuredSize where
  width := m.firstLine
  height := m.lines
  inRange :=
    m.elapsed ≤ Config.lossTime && 640 ≤ m.firstLine && m.firstLine ≤ 1280 && 360 ≤ m.lines && m.lines ≤ 720
      && m.uniform

/-! ### The output frame start (R153, R154) -/

/-- A height lowered as far as the room left needs; below its least value it becomes 0 (R154). -/
def lowered (least room height : Nat) : Nat :=
  if height ≤ room then height else if room < least then 0 else room

/-- The staged heights reduced to fit the live height: first Hl, then Hm, then Ht (R154). -/
def FrameSettings.fit (f : FrameSettings) (height : Nat) : FrameSettings :=
  let hl := lowered 0 (height - f.ht - f.hm) f.hl
  let hm := lowered 48 (height - f.ht - hl) f.hm
  { f with ht := lowered 24 (height - hl - hm) f.ht, hl := hl, hm := hm }

/-- Step 1: the live size (R153). -/
def VideoCompositor.resize (v : VideoCompositor) (size : Option (Nat × Nat)) : VideoCompositor :=
  match size with
  | some (w, h) => { v with width := w, height := h }
  | none => v

/-- Step 2: the staged heights are reduced where they do not fit, and GEOMETRY-CLAMPED is raised (R153,
R154). -/
def State.fitZones (s : State) : State :=
  let f := s.ps.profile.staged
  if f.ht + f.hl + f.hm ≤ s.vc.height then s
  else
    (s.withPs { s.ps with profile := s.ps.profile.stage (f.fit s.vc.height) }).raiseAll .geometryClamped

/-- Step 3: every frame-latched field is copied to its live value (R153). -/
def State.latch (s : State) : State := s.withVc { s.vc with live := s.ps.profile.staged }

/-- An output frame start, with the size it brings in (R153). -/
def State.frameStart (s : State) (size : Option (Nat × Nat)) : State :=
  (((((s.withVc (s.vc.resize size)).fitZones.latch).lyricFrame s.vc.layoutKey).tickerFrame).meterFrame).draw

/-! ### Lock, loss and regain (R148 to R150) -/

/-- A regain: LOCKED, the internal timing stopped, the loss timer at 80 ms (R150). -/
def VideoCompositor.regain (v : VideoCompositor) : VideoCompositor :=
  { v with lock := .locked, internalTiming := false, lossTimer := some Config.lossTime, everLocked := true }

/-- The measurement goes on to a new frame, and the closed frame is the last measured one (R147). -/
def VideoCompositor.closeFrame (v : VideoCompositor) (closed : Option MeasuredSize) : VideoCompositor :=
  { v with measurement := some Measurement.fresh, lastMeasured := closed.or v.lastMeasured }

/-- The size of a closed frame that makes its frame start valid (R147). -/
def validSize (closed : Option MeasuredSize) : Option (Nat × Nat) :=
  (closed.filter (fun m => m.inRange)).map (fun m => (m.width, m.height))

/-- An input frame start (R147, R148, R150). -/
def State.inputFrame (lines : List Nat) (s : State) : State :=
  let closed := s.vc.measurement.map (fun m => (lines.foldl Measurement.line m).close)
  let t := s.withVc (s.vc.closeFrame closed)
  match s.vc.lock, validSize closed with
  | .locked, some size => (t.withVc { t.vc with lossTimer := some Config.lossTime }).frameStart (some size)
  | .locked, none => t.frameStart none
  | .lost, some size => ((t.withVc t.vc.regain).raiseAll .videoRegained).frameStart (some size)
  | .lost, none => t

/-- The loss timer expires: LOST, the internal timing starts and makes an output frame start at once (R149). -/
def State.videoLost (s : State) : State :=
  ((s.withVc { s.vc with lock := .lost, lossTimer := none, internalTiming := true }).raiseAll
    .videoLost).frameStart none

/-- The next millisecond brings the loss timer to 0 (R149). -/
def VideoCompositor.lossDue (v : VideoCompositor) : Bool :=
  v.lock == .locked && v.lossTimer.any (fun n => n ≤ 1)

/-- A millisecond passes over the measurement and the loss timer (R147, R149; entry 4). -/
def VideoCompositor.tick (v : VideoCompositor) : VideoCompositor :=
  { v with
    measurement := v.measurement.map (fun m => { m with elapsed := m.elapsed + 1 })
    lossTimer := if v.lock = .locked then v.lossTimer.map (fun n => n - 1) else v.lossTimer }

/-- The VC's part of a millisecond. -/
def State.vcMillisecond (s : State) : State :=
  let t := s.withVc s.vc.tick
  if s.vc.lossDue then t.videoLost else t

/-- An output frame start of the internal timing, which runs in LOST (R149; entry 11). -/
def State.internalFrame (s : State) : State :=
  if s.vc.lock = .lost ∧ s.vc.internalTiming then s.frameStart none else s

/-! ### ZONES and VIDEO-STATUS (R152, R156) -/

/-- ZONES' heights are accepted against a live height (R152). -/
def zonesAccepted (height ht hl hm : Nat) : Bool :=
  (ht == 0 || (24 ≤ ht && ht ≤ 64)) && (hm == 0 || (48 ≤ hm && hm ≤ 160)) && ht + hl + hm ≤ height

/-- Three zone heights in a payload (R152, R156). -/
def heightsPayload (ht hl hm : Nat) : List Byte := be1 ht ++ be2 hl ++ be1 hm

/-- ZONES reaches the VC (R152). -/
def State.vcZones (src : Source) (ht hl hm : Nat) (s : State) : State :=
  if zonesAccepted s.vc.height ht hl hm then
    (s.withPs
      { s.ps with
        profile := s.ps.profile.stage { s.ps.profile.staged with ht := ht, hl := hl, hm := hm } }).answer src .zones
      (okWith (heightsPayload ht hl hm))
  else s.answer src .zones (refusedWith .badValue)

/-- The last measured size in VIDEO-STATUS; each number 0 when absent (R156, R169). -/
def measuredPayload : Option MeasuredSize → List Byte
  | some m => encMeasured m.width ++ encMeasured m.height ++ encBool m.inRange
  | none => be2 0 ++ be2 0 ++ be1 0

/-- VIDEO-STATUS's payload (R156, R169). -/
def videoPayload (v : VideoCompositor) (staged : FrameSettings) : List Byte :=
  encLockState v.lock ++ encBool v.everLocked ++ be2 v.width ++ be2 v.height ++ measuredPayload v.lastMeasured
    ++ heightsPayload v.live.ht v.live.hl v.live.hm ++ heightsPayload staged.ht staged.hl staged.hm

/-- VIDEO-STATUS answered (R156). -/
def State.vcStatus (src : Source) (s : State) : State :=
  s.answer src .videoStatus (okWith (videoPayload s.vc s.ps.profile.staged))

/-! ### Meanings -/

/-- ZONES (R152). -/
def execZones (src : Source) (ht hl hm : Nat) (s : State) : Result :=
  .next (s.command src .zones true (State.vcZones src ht hl hm))

/-- VIDEO-STATUS (R156). -/
def execVideoStatus (src : Source) (s : State) : Result :=
  .next (s.command src .videoStatus true (State.vcStatus src))

/-- An input frame start (R147). -/
def execInputFrameStart (lines : List Nat) (s : State) : Result := .next (s.outsideReset (State.inputFrame lines))

/-- An output frame start of the internal timing (R149, R153). -/
def execOutputFrameStart (s : State) : Result := .next (s.outsideReset State.internalFrame)

end Sys2Proof.Machine
end

