-- ==== Sys2Proof/Machine/Stage.lean ====
section
/-! DEFINITION. The Stage Controller: starting, the song clock, pause, sync and seek, key and tempo, ending a song,
stage reset, STATUS, and the millisecond of the timebase (chapter 4). -/

namespace Sys2Proof.Machine

/-! ### Small operations -/

/-- The hold timer suspended with the time it had left (R67). -/
def HoldTimer.suspend : HoldTimer → HoldTimer
  | .running n => .suspended n
  | .stopped => .stopped
  | .suspended n => .suspended n

/-- The hold timer resumed from the time it had left (R69). -/
def HoldTimer.resume : HoldTimer → HoldTimer
  | .suspended n => .running n
  | .stopped => .stopped
  | .running n => .running n

/-- The stage takes SYNC, KEY, KEY-STEP, TEMPO and STOP (R73, R75, R76, R78). -/
def StageController.onSong (c : StageController) : Bool := c.stage == .playing || c.stage == .paused

/-- The end time of the song on stage (R66); entry 40 for the absent one. -/
def StageController.songEnd (c : StageController) : Nat := c.endTime.getD Config.maxTime

/-- The result ends: the timer stops, the stage is READY, the card is dropped, STAGE-CHANGED is raised (R80). -/
def State.endResult (s : State) : State :=
  ((s.withSc { s.sc with stage := .ready, hold := .stopped }).withLr (s.lr.emptied .empty)).raiseAll .stageChanged

/-- Finalisation: the notes are closed, the stage is ENDING, the RETIRE notice carries the end kind, the song time
reached and the finals (R77). -/
def State.finalise (s : State) (kind : EndKind) : State :=
  ((s.withSu s.su.closeNotes).withSc { s.sc with stage := .ending }).arrive
    (.notice (.retire kind s.sc.songTime s.su.closeNotes.finals))

/-! ### START and its two answers (R67 to R69) -/

/-- The song of the slot that carries a ticket, if that slot is LOADED (R67). -/
def SongLoader.loadedSong (sl : SongLoader) (ticket : Nat) : Option Song :=
  match (sl.carrying ticket).map sl.get with
  | some (.loaded g) => some g
  | _ => none

/-- The state a START would return to: READY or RESULT, the states that take it (R67). -/
def StageController.returnState (c : StageController) : Option ReturnState :=
  match c.stage with
  | .ready => some .ready
  | .result => some .result
  | .starting => none
  | .playing => none
  | .paused => none
  | .ending => none
  | .resetting => none

/-- A START that passes its checks (R67). -/
def State.beginStart (s : State) (ticket offset : Nat) (g : Song) (back : ReturnState) : State :=
  (s.withSc
    { s.sc with
      stage := .starting
      endTime := g.index.endTime
      hold := s.sc.hold.suspend
      pendingStart := some ⟨ticket, offset, back⟩ }).arrive (.notice (.start ticket))

/-- START reaches the SC (R67). -/
def State.scStart (src : Source) (ticket offset : Nat) (s : State) : State :=
  match s.sc.returnState with
  | none => s.answer src .start (refusedWith .wrongState)
  | some back =>
    match (if s.qm.cuedIs ticket then s.sl.loadedSong ticket else none) with
    | none => s.answer src .start (refusedWith .notReady)
    | some g =>
      if g.index.endTime.any (fun e => offset < e) then s.beginStart ticket offset g back
      else s.answer src .start (refusedWith .badValue)

/-- The SC takes the first confirmation on its way. -/
def State.takeConfirmation (s : State) : State := s.withQm { s.qm with toStage := s.qm.toStage.tail }

/-- The song begins: the SC's, the SU's and the LR's part (R68). -/
def State.songStart (s : State) (p : PendingStart) (key : Int) (tempo : Nat) (duet : Bool) : State :=
  let t :=
    (s.withSc
      { s.sc with
        stage := .playing
        songTime := p.offset
        remainder := 0
        key := key
        tempo := tempo
        seekCount := 0
        hold := .stopped
        pendingStart := none }).withSu (s.su.songStart duet)
  t.withLr (t.lr.songStart (t.lyricInputs p.offset))

/-- The START confirmation reaches the SC (R68); with none on its way nothing changes (entry 3). -/
def State.startConfirmed (s : State) : State :=
  match s.qm.toStage.head?, s.sc.pendingStart with
  | some (.start key tempo duet), some p =>
    ((s.takeConfirmation.songStart p key tempo duet).raiseAll .songStarted).answer .player .start
      (okWith (be2 p.ticket ++ encTime p.offset ++ encSigned key ++ be1 tempo))
  | _, _ => s

/-- The stage state a return state names. -/
def ReturnState.stage : ReturnState → StageState
  | .ready => .ready
  | .result => .result

/-- The CUE-LOST answer reaches the SC (R69); with none on its way nothing changes (entry 3). -/
def State.cueLostAnswered (s : State) : State :=
  match s.qm.toStage.head?, s.sc.pendingStart with
  | some .cueLost, some p =>
    (s.takeConfirmation.withSc
      { s.sc with
        stage := p.back.stage
        endTime := none
        hold := s.sc.hold.resume
        pendingStart := none }).answer .player .start (refusedWith .cueLost)
  | _, _ => s

/-! ### PAUSE, RESUME, SYNC (R72, R73) -/

/-- The stage moves between PLAYING and PAUSED: STAGE-CHANGED, and the reply with the song time (R72). -/
def State.scFreeze (src : Source) (c : Command) (old new : StageState) (s : State) : State :=
  if s.sc.stage = old then
    ((s.withSc { s.sc with stage := new }).raiseAll .stageChanged).answer src c (okWith (encTime s.sc.songTime))
  else s.answer src c (refusedWith .wrongState)

/-- The SYNC is a seek: song time is further from the value than the sync window (R73). -/
def State.isSeek (s : State) (t : Nat) : Bool :=
  s.ps.profile.syncWindow < ((t : Int) - s.sc.songTime).natAbs

/-- Song time is set and the remainder is 0; a seek is counted and handed to the SU and the LR (R73, R74). -/
def State.setTime (s : State) (t : Nat) : State :=
  if s.isSeek t then
    let u :=
      (s.withSc { s.sc with songTime := t, remainder := 0, seekCount := stopCount (s.sc.seekCount + 1) }).withSu
        (s.su.seek t)
    u.withLr (u.lr.rebuild (u.lyricInputs t))
  else s.withSc { s.sc with songTime := t, remainder := 0 }

/-- A song set to its end time ends (R73). -/
def State.endIf (s : State) (ended : Bool) : State := if ended then s.finalise .completed else s

/-- SYNC's reply (R73; entry 21). -/
def syncPayload (time : Nat) (seek : Bool) (seeks : Nat) (ended : Bool) : List Byte :=
  encTime time ++ encBool seek ++ be2 seeks ++ encBool ended

/-- SYNC reaches the SC (R73). -/
def State.scSync (src : Source) (time : Nat) (s : State) : State :=
  if s.sc.onSong then
    let t := clampNat 0 s.sc.songEnd time
    let moved := s.setTime t
    (moved.endIf (t == s.sc.songEnd)).answer src .sync
      (okWith (syncPayload t (s.isSeek t) moved.sc.seekCount (t == s.sc.songEnd)) { clamped := t != time })
  else s.answer src .sync (refusedWith .wrongState)

/-! ### KEY, KEY-STEP, TEMPO (R75, R76) -/

/-- STAGE-CHANGED where a value changed (R75, R76). -/
def State.stageChangedIf (s : State) (changed : Bool) : State := if changed then s.raiseAll .stageChanged else s

/-- The right and the state are checked, then the stage key takes the clamped value (R75). -/
def State.setKey (src : Source) (c : Command) (k : Int) (s : State) : State :=
  if !rightsHold (s.rightsOf src) .key then s.answer src c (refusedWith .noRight)
  else if s.sc.onSong then
    let new := clampInt (-6) 6 k
    ((s.withSc { s.sc with key := new }).stageChangedIf (new != s.sc.key)).answer src c
      (okWith (encSigned new) { clamped := new != k })
  else s.answer src c (refusedWith .wrongState)

/-- KEY-STEP reaches the SC: its direction is checked first (R75). -/
def State.scKeyStep (src : Source) (direction : Int) (s : State) : State :=
  if direction = 1 ∨ direction = -1 then s.setKey src .keyStep (s.sc.key + direction)
  else s.answer src .keyStep (refusedWith .badValue)

/-- TEMPO reaches the SC (R76). -/
def State.scTempo (src : Source) (p : Nat) (s : State) : State :=
  if s.sc.onSong then
    let new := clampNat 85 115 p
    ((s.withSc { s.sc with tempo := new }).stageChangedIf (new != s.sc.tempo)).answer src .tempo
      (okWith (be1 new) { clamped := new != p })
  else s.answer src .tempo (refusedWith .wrongState)

/-! ### STOP and the RETIRE confirmation (R78, R79) -/

/-- STOP reaches the SC; it stays outstanding (R78). -/
def State.scStop (src : Source) (s : State) : State :=
  if s.sc.onSong then s.finalise .stopped else s.answer src .stop (refusedWith .wrongState)

/-- What a RETIRE confirmation does on the stage: RESULT with the card and the timer, READY where the result hold
is 0, and in RESETTING nothing (R79). -/
def State.showResult (s : State) : State :=
  if s.sc.stage = .resetting then s
  else if s.ps.profile.resultHold = 0 then
    ((s.withSc { s.sc with stage := .ready }).withLr (s.lr.emptied .empty)).raiseAll .stageChanged
  else
    (s.withSc { s.sc with stage := .result, hold := .running s.ps.profile.resultHold }).withLr
      (s.lr.showCard s.vc.geometry s.qm.newest)

/-- A STOP is outstanding at the Player port. -/
def State.stopWaits (s : State) : Bool := s.ports.player.condition == .outstanding Command.stop.code

/-- STOP's reply: the end kind, the song time reached, both lanes' finals (R79; entry 18). -/
def State.stopPayload (s : State) : List Byte :=
  encEndKind .stopped ++ encTime s.sc.songTime ++ finalsPayload s.su.finals.lane0 ++ finalsPayload s.su.finals.lane1

/-- An outstanding STOP is answered (R79). -/
def State.answerStop (s : State) : State :=
  if s.stopWaits then s.answer .player .stop (okWith s.stopPayload) else s

/-- The RETIRE confirmation reaches the SC (R79); with none on its way nothing changes (entry 3). -/
def State.retireConfirmed (s : State) : State :=
  match s.qm.toStage.head? with
  | some .retire =>
    (((s.takeConfirmation.withSc { s.sc with endTime := none }).showResult).raiseAll .songEnded).answerStop
  | _ => s

/-! ### SKIP-RESULT, STAGE-RESET, the RESET confirmation (R80 to R82) -/

/-- SKIP-RESULT reaches the SC (R80). -/
def State.scSkipResult (src : Source) (s : State) : State :=
  if s.sc.stage = .result then s.endResult.answer src .skipResult (okWith [])
  else s.answer src .skipResult (refusedWith .wrongState)

/-- A STAGE-RESET that is taken (R81). -/
def State.beginReset (s : State) : State :=
  (((s.withSu s.su.discardNotes).withLr s.lr.stageReset).withSc
    { s.sc with stage := .resetting, hold := .stopped }).arrive (.notice (.reset s.sc.songTime))

/-- STAGE-RESET reaches the SC; it stays outstanding (R81). -/
def State.scStageReset (src : Source) (s : State) : State :=
  if s.sc.stage = .starting ∨ s.sc.stage = .resetting then s.answer src .stageReset (refusedWith .wrongState)
  else s.beginReset

/-- The RESET confirmation reaches the SC (R82); with none on its way nothing changes (entry 3). -/
def State.resetConfirmed (s : State) : State :=
  match s.qm.toStage.head? with
  | some .reset =>
    ((s.takeConfirmation.withSc { s.sc with stage := .ready, endTime := none }).raiseAll .stageChanged).answer .player
      .stageReset (okWith [])
  | _ => s

/-! ### STATUS (R84, R171) -/

/-- The CUED slot state (R46). -/
def State.cuedSlot (s : State) : Slot :=
  (((cuedEntry s.qm.queue).bind (fun e => s.sl.carrying e.ticket)).map s.sl.get).getD .empty

/-- A lane's live score and streak (R171). -/
def laneStatus (k : ScoreLane) : List Byte := encScore k.songScore ++ be2 k.streak

/-- STATUS's payload, 22 bytes (R171). -/
def State.statusPayload (s : State) : List Byte :=
  encStageState s.sc.stage ++ encTime s.sc.songTime ++ encSigned s.sc.key ++ be1 s.sc.tempo
    ++ encTicket ((playingEntry s.qm.queue).map (fun e => e.ticket))
    ++ encTicket ((cuedEntry s.qm.queue).map (fun e => e.ticket))
    ++ encSlotState s.cuedSlot ++ laneStatus s.su.lanes.lane0 ++ laneStatus s.su.lanes.lane1
    ++ be2 s.sc.seekCount ++ encBool s.ps.defaulted

/-- STATUS answered (R84). -/
def State.scStatus (src : Source) (s : State) : State := s.answer src .status (okWith s.statusPayload)

/-! ### The millisecond (R70, R71, R80) -/

/-- Song time moved on by whole milliseconds, never past the end time (R71), with the remainder left (R70). -/
def StageController.moved (c : StageController) (by_ left : Nat) : StageController :=
  { c with songTime := min (c.songTime + by_) (max c.songTime c.songEnd), remainder := left }

/-- The song clock advanced by one timebase millisecond in PLAYING (R70). Where the sum is 200 or more, one subtraction
leaves the range R66 gives the remainder and the spec disagrees with itself: what happens is a free value (entry 44). -/
def StageController.advance (c : StageController) : StageController :=
  let sum := c.remainder + c.tempo
  if sum < 100 then c.moved 0 sum
  else if sum < 200 then c.moved 1 (sum - 100)
  else
    match Config.tempoCarry sum with
    | none => c.moved 2 (sum - 200)
    | some r => c.moved 1 r

/-- The next millisecond brings song time to the end time (R71). -/
def StageController.endDue (c : StageController) : Bool :=
  c.stage == .playing && c.songEnd ≤ c.advance.songTime

/-- The hold timer is running in RESULT with this much left (R80). -/
def StageController.holdLeft (c : StageController) : Option Nat :=
  match c.stage, c.hold with
  | .result, .running n => some n
  | _, _ => none

/-- The next millisecond brings the hold timer to 0 (R80). -/
def StageController.holdDue (c : StageController) : Bool := c.holdLeft.any (fun n => n ≤ 1)

/-- The SC's part of a millisecond: the song clock and the song's end in PLAYING, the hold timer and its expiry in
RESULT (R70, R71, R80). -/
def State.scMillisecond (s : State) : State :=
  if s.sc.stage = .playing then (s.withSc s.sc.advance).endIf s.sc.endDue
  else
    match s.sc.holdLeft with
    | some n => if n ≤ 1 then s.endResult else s.withSc { s.sc with hold := .running (n - 1) }
    | none => s

/-- A millisecond passes: the SC's part, then the VC's (entries 4 and 5). -/
def State.millisecond (s : State) : State := s.scMillisecond.vcMillisecond

/-! ### Meanings -/

/-- START (R67). -/
def execStart (src : Source) (ticket offset : Nat) (s : State) : Result :=
  .next (s.command src .start true (State.scStart src ticket offset))

/-- The START confirmation (R68). -/
def execStartConfirmation (s : State) : Result := .next (s.outsideReset State.startConfirmed)

/-- The CUE-LOST answer (R69). -/
def execCueLostAnswer (s : State) : Result := .next (s.outsideReset State.cueLostAnswered)

/-- PAUSE (R72). -/
def execPause (src : Source) (s : State) : Result :=
  .next (s.command src .pause true (State.scFreeze src .pause .playing .paused))

/-- RESUME (R72). -/
def execResume (src : Source) (s : State) : Result :=
  .next (s.command src .resume true (State.scFreeze src .resume .paused .playing))

/-- STOP (R78). -/
def execStop (src : Source) (s : State) : Result := .next (s.command src .stop true (State.scStop src))

/-- SYNC (R73). -/
def execSync (src : Source) (time : Nat) (s : State) : Result :=
  .next (s.command src .sync true (State.scSync src time))

/-- KEY (R75). -/
def execKey (src : Source) (k : Int) (s : State) : Result :=
  .next (s.command src .key true (State.setKey src .key k))

/-- KEY-STEP (R75). -/
def execKeyStep (src : Source) (direction : Int) (s : State) : Result :=
  .next (s.command src .keyStep true (State.scKeyStep src direction))

/-- TEMPO (R76). -/
def execTempo (src : Source) (p : Nat) (s : State) : Result :=
  .next (s.command src .tempo true (State.scTempo src p))

/-- SKIP-RESULT (R80). -/
def execSkipResult (src : Source) (s : State) : Result :=
  .next (s.command src .skipResult true (State.scSkipResult src))

/-- STAGE-RESET (R81). -/
def execStageReset (src : Source) (s : State) : Result :=
  .next (s.command src .stageReset true (State.scStageReset src))

/-- The RESET confirmation (R82). -/
def execResetConfirmation (s : State) : Result := .next (s.outsideReset State.resetConfirmed)

/-- STATUS (R84). -/
def execStatus (src : Source) (s : State) : Result := .next (s.command src .status true (State.scStatus src))

/-- A millisecond of the timebase (R70). -/
def execTimebaseMillisecond (s : State) : Result := .next (s.outsideReset State.millisecond)

/-- The millisecond that ends the song (R71; entry 4). -/
def execSongEnd (s : State) : Result :=
  .next (s.outsideReset (fun t => if t.sc.endDue then t.millisecond else t))

/-- The RETIRE confirmation (R79). -/
def execRetireConfirmation (s : State) : Result := .next (s.outsideReset State.retireConfirmed)

/-- The millisecond that ends the result hold (R80; entry 4). -/
def execHoldTimerExpiry (s : State) : Result :=
  .next (s.outsideReset (fun t => if t.sc.holdDue then t.millisecond else t))

/-- The millisecond that ends the loss timer (R149; entry 4). -/
def execLossTimerExpiry (s : State) : Result :=
  .next (s.outsideReset (fun t => if t.vc.lossDue then t.millisecond else t))

end Sys2Proof.Machine
end

