-- ==== Sys2Proof/Machine/Ports.lean ====
section
/-! DEFINITION. The Port Interface: taking a frame, the Player transactions, the panel lines, and the commands the
PI owns (chapters 9 and 10). -/

namespace Sys2Proof.Machine

/-! ### Reading parameters (R163, R169) -/

/-- ADD's parameters (R169). -/
def addParamsOf (ps : List Byte) : AddParams :=
  let o := 4 + 2 * paramAt ps 3 1
  { song := paramAt ps 0 3
    title := textAt ps 3
    singer := rosterNumberAt ps o
    partner := rosterNumberAt ps (o + 1)
    duet := paramAt ps (o + 2) 1
    startKey := signedAt ps (o + 3)
    tempo := paramAt ps (o + 4) 1
    wantsPriority := paramAt ps (o + 5) 1 }

/-- GLYPH-LOAD's parameters (R111, R169). -/
def glyphParamsOf (ps : List Byte) : GlyphParams where
  code := paramAt ps 0 2
  advance := paramAt ps 2 1
  maskWidth := paramAt ps 3 1
  rows := (List.range 32).map (fun j => BitVec.ofNat 32 (paramAt ps (4 + 4 * j) 4))

/-- PROFILE-SET's value: two bytes, two's complement (R169). -/
def profileValueAt (ps : List Byte) (at_ : Nat) : Int := (BitVec.ofNat 16 (paramAt ps at_ 2)).toInt

/-- The parameter lengths of the availability table (R163 step 5, section 9.5). -/
def Command.lengthOk (ps : List Byte) : Command → Bool
  | .add => ps.length == 10 + 2 * paramAt ps 3 1
  | .withdraw => ps.length == 2
  | .hold => ps.length == 2
  | .release => ps.length == 2
  | .raise => ps.length == 2
  | .lower => ps.length == 2
  | .singerAdd => ps.length == 1 + 2 * paramAt ps 0 1
  | .singerDrop => ps.length == 1
  | .clearQueue => ps.length == 0
  | .uncue => ps.length == 0
  | .takeNext => ps.length == 0
  | .list => ps.length == 2
  | .query => ps.length == 2
  | .history => ps.length == 2
  | .roster => ps.length ≤ 1
  | .loadOpen => ps.length == 5
  | .loadData => loadDataLength ps.length
  | .loadClose => ps.length == 0
  | .loadAbort => ps.length == 0
  | .start => ps.length == 5
  | .pause => ps.length == 0
  | .resume => ps.length == 0
  | .stop => ps.length == 0
  | .sync => ps.length == 3
  | .key => ps.length == 1
  | .keyStep => ps.length == 1
  | .tempo => ps.length == 1
  | .skipResult => ps.length == 0
  | .stageReset => ps.length == 0
  | .status => ps.length == 0
  | .glyphLoad => ps.length == 132
  | .lyricStatus => ps.length == 0
  | .idleText => ps.length == 1 + 2 * paramAt ps 0 1
  | .zones => ps.length == 4
  | .videoStatus => ps.length == 0
  | .rights => ps.length == 1 || ps.length == 2
  | .events => ps.length == 0
  | .mask => ps.length == 2
  | .profileSet => ps.length == 3
  | .profileGet => ps.length == 1
  | .profileSave => ps.length == 0

/-! ### The PI's own commands (R166, R174, R175) -/

/-- The panel port of a number 1..3 (R166). -/
def panelPort : Nat → Option Source
  | 1 => some .panel1
  | 2 => some .panel2
  | 3 => some .panel3
  | _ => none

/-- RIGHTS reaches the PI (R166). -/
def State.piRights (src : Source) (port : Nat) (mask : Option Byte) (s : State) : State :=
  match panelPort port, mask with
  | none, _ => s.answer src .rights (refusedWith .badValue)
  | some p, none => s.answer src .rights (okWith (be1 port ++ encRights (s.port p).rights))
  | some p, some m =>
    if m &&& 0xF0#8 = 0#8 then
      (s.modifyPort p fun r => { r with rights := m.setWidth 4 }).answer src .rights
        (okWith (be1 port ++ encRights (m.setWidth 4)))
    else s.answer src .rights (refusedWith .badValue)

/-- EVENTS reaches the PI (R174). -/
def State.piEvents (src : Source) (s : State) : State :=
  (s.modifyPort src fun r => { r with events := 0#12 }).answer src .events (okWith (encEvents (s.port src).events))

/-- MASK reaches the PI (R175). -/
def State.piMask (src : Source) (m : BitVec 16) (s : State) : State :=
  (s.modifyPort src fun r => { r with mask := m.setWidth 12 }).answer src .mask (okWith (encEvents (m.setWidth 12)))

/-! ### Taking a frame (R163, R164) -/

/-- A command's owner with the parameters of its frame (section 9.5). -/
def Command.owner (src : Source) (ps : List Byte) : Command → State → State
  | .add => State.qmAdd src (addParamsOf ps)
  | .withdraw => State.qmEdit src (.withdraw (paramAt ps 0 2))
  | .hold => State.qmEdit src (.hold (paramAt ps 0 2))
  | .release => State.qmEdit src (.release (paramAt ps 0 2))
  | .raise => State.qmEdit src (.raise (paramAt ps 0 2))
  | .lower => State.qmEdit src (.lower (paramAt ps 0 2))
  | .singerAdd => State.qmSingerAdd src (textAt ps 0)
  | .singerDrop => State.qmEdit src (.singerDrop (paramAt ps 0 1))
  | .clearQueue => State.qmEdit src .clearQueue
  | .uncue => State.qmEdit src .uncue
  | .takeNext => State.qmTakeNext
  | .list => State.qmList src (paramAt ps 0 1) (paramAt ps 1 1)
  | .query => State.qmQuery src (paramAt ps 0 2)
  | .history => State.qmHistory src (paramAt ps 0 1) (paramAt ps 1 1)
  | .roster => State.qmRoster src (if ps.length = 0 then none else some (paramAt ps 0 1))
  | .loadOpen => State.slLoadOpen src (paramAt ps 0 2) (paramAt ps 2 2) (paramAt ps 4 1)
  | .loadData => State.slLoadData src ps
  | .loadClose => State.slLoadClose src
  | .loadAbort => State.slLoadAbort src
  | .start => State.scStart src (paramAt ps 0 2) (paramAt ps 2 3)
  | .pause => State.scFreeze src .pause .playing .paused
  | .resume => State.scFreeze src .resume .paused .playing
  | .stop => State.scStop src
  | .sync => State.scSync src (paramAt ps 0 3)
  | .key => State.setKey src .key (signedAt ps 0)
  | .keyStep => State.scKeyStep src (signedAt ps 0)
  | .tempo => State.scTempo src (paramAt ps 0 1)
  | .skipResult => State.scSkipResult src
  | .stageReset => State.scStageReset src
  | .status => State.scStatus src
  | .glyphLoad => State.lrGlyphLoad src (glyphParamsOf ps)
  | .lyricStatus => State.lrStatus src
  | .idleText => State.tuIdleText src (textAt ps 0)
  | .zones => State.vcZones src (paramAt ps 0 1) (paramAt ps 1 2) (paramAt ps 3 1)
  | .videoStatus => State.vcStatus src
  | .rights => State.piRights src (paramAt ps 0 1) (ps[1]?)
  | .events => State.piEvents src
  | .mask => State.piMask src (BitVec.ofNat 16 (paramAt ps 0 2))
  | .profileSet => State.psSet src (paramAt ps 0 1) (profileValueAt ps 1)
  | .profileGet => State.psGet src (paramAt ps 0 1)
  | .profileSave => State.psSave

/-- A frame that passed the framing check is taken (R163 steps 2 to 5). -/
def State.takeFrame (s : State) (src : Source) (code : Byte) (ps : List Byte) : State :=
  match Command.ofCode code with
  | none => s.refuse src code (if (s.port src).busy then .busy else .unknown)
  | some c => s.command src c (c.lengthOk ps) (c.owner src ps)

/-! ### The Player port (R158, R159) -/

/-- What the part shifts out after the select byte: the model's record of MISO (entry 37). -/
def State.shiftOut (s : State) (bytes : List Byte) : State := s.withPorts { s.ports with miso := bytes }

/-- Bytes that read 0xFF. -/
def idleBytes (n : Nat) : List Byte := List.replicate n 0xFF#8

/-- A write transaction's frame is taken as chip select rises (R158). -/
def State.playerFrame (s : State) : List Byte → State
  | code :: len :: ps =>
    if len.toNat ≤ 250 ∧ ps.length = len.toNat then s.takeFrame .player code ps
    else s.refuse .player code .badLength
  | _ => s

/-- The waiting reply that stands first in delivery order, with its place (R159). -/
def Port.waiting (p : Port) : Option (Place × Reply) := p.first.bind (fun pl => (p.place pl).map (fun r => (pl, r)))

/-- What a complete select byte makes of a transaction; a read chooses its reply now (R158, R159). -/
def Port.selected (p : Port) (select : Byte) : Transaction :=
  if select = 0x3C#8 then .writing []
  else if select = 0xC3#8 then
    match p.waiting with
    | some (pl, r) => .reading pl r.bytes
    | none => .spent
  else .ignored select

/-- The part shifts out these bytes, and the transaction has come so far. -/
def State.shift (s : State) (out : List Byte) (t : Transaction) : State :=
  s.withPorts { s.ports with miso := s.ports.miso ++ out, transaction := some t }

/-- The Player clocks one whole byte: it is taken, and a byte is shifted out; a reply whose last byte that was is
delivered (R158, R159). While chip select is high nothing is clocked. -/
def State.clockByte (s : State) (b : Byte) : State :=
  match s.ports.transaction with
  | none => s
  | some .selecting => s.shift [] (s.ports.player.selected b)
  | some (.writing taken) => s.shift [0xFF#8] (.writing (taken ++ [b]))
  | some (.reading pl (x :: y :: rest)) => s.shift [x] (.reading pl (y :: rest))
  | some (.reading pl [x]) => (s.shift [x] .spent).modifyPort .player (fun p => p.deliver pl)
  | some (.reading _ []) => s.shift [0xFF#8] .spent
  | some .spent => s.shift [0xFF#8] .spent
  | some (.ignored c) => s.shift [0xFF#8] (.ignored c)

/-- Chip select falls, where it is high: a transaction begins (R158). -/
def State.selectFalls (s : State) : State :=
  match s.ports.transaction with
  | none => s.withPorts { s.ports with transaction := some .selecting, miso := [] }
  | some _ => s

/-- Chip select rises: the transaction ends, and a write transaction's frame is taken (R158). -/
def State.selectRises (s : State) : State :=
  let t := s.withPorts { s.ports with transaction := none }
  match s.ports.transaction with
  | some (.writing taken) => t.playerFrame taken
  | _ => t

/-- Whole bytes are clocked in a transaction, begun now where none is in progress; then chip select rises, the bits of an
incomplete byte not counting, or stays low (R158). -/
def State.transact (s : State) (mosi : List Byte) (rise : Option (List Bool)) : State :=
  let t := mosi.foldl State.clockByte s.selectFalls
  if rise.isSome then t.selectRises else t

/-- The row of a write, or of a transaction that is ignored; it does not find its transaction while a read is in progress
(R158; entry 13). -/
def State.playerWrite (mosi : List Byte) (rise : Option (List Bool)) (s : State) : State :=
  match s.ports.transaction with
  | some (.reading _ _) => s
  | some .spent => s
  | _ => s.transact mosi rise

/-- The row of a read: the select byte 0xC3 where none is complete yet, then bytes whose MOSI bits nothing takes; it does
not find its transaction while another is in progress (R159; entry 13). -/
def State.playerRead (clocked : Nat) (rise : Option (List Bool)) (s : State) : State :=
  match s.ports.transaction with
  | some (.writing _) => s
  | some (.ignored _) => s
  | some (.reading _ _) => s.transact (idleBytes clocked) rise
  | some .spent => s.transact (idleBytes clocked) rise
  | _ => s.transact (0xC3#8 :: idleBytes clocked) rise

/-! ### The panel lines (R160 to R162) -/

/-- A panel port's receiver moves on. -/
def State.receive (s : State) (src : Source) (r : Receiver) : State :=
  s.modifyPort src fun p => { p with receiver := r }

/-- A byte arrives on a panel line (R160, R161). -/
def State.panelByte (src : Source) (s : State) (b : Byte) : State :=
  match (s.port src).receiver with
  | .hunting => if b = 0xA5#8 then s.receive src .code else s
  | .code => s.receive src (.length b)
  | .length code =>
    if 250 < b.toNat then (s.receive src .hunting).refuse src code .badLength
    else if b = 0#8 then s.receive src (.check code b [])
    else s.receive src (.parameters code b [] b.toNat)
  | .parameters code len taken left =>
    if left ≤ 1 then s.receive src (.check code len (taken ++ [b]))
    else s.receive src (.parameters code len (taken ++ [b]) (left - 1))
  | .check code len taken =>
    if crc8 (code :: len :: taken) = b then (s.receive src .hunting).takeFrame src code taken
    else (s.receive src .hunting).refuse src code .badCheck

/-- The transmitter sends this many more bytes; with its check byte sent the reply is delivered and the next waiting one
begins (R162). An idle transmitter sends nothing (entry 14). -/
def Port.send (p : Port) (count : Nat) : Port :=
  match p.transmitter with
  | none => p
  | some t =>
    if t.left.length ≤ count then
      ({ p with transmitter := none, sent := t.left }.deliver t.place).beginSending
    else { p with transmitter := some { t with left := t.left.drop count }, sent := t.left.take count }

/-! ### Meanings -/

/-- A Player transaction of whole bytes, select byte first; the bits of an incomplete byte do not count (R158).
During reset it reads 0xFF throughout (R181). -/
def execPlayerWriteTransaction (mosi : List Byte) (rise : Option (List Bool)) (s : State) : Result :=
  .next (if s.inReset then s.shiftOut (idleBytes (mosi.length - 1)) else s.playerWrite mosi rise)

/-- A Player read transaction (R159). -/
def execPlayerReadTransaction (clocked : Nat) (rise : Option (List Bool)) (s : State) : Result :=
  .next (if s.inReset then s.shiftOut (idleBytes clocked) else s.playerRead clocked rise)

/-- Bytes arrive on a panel line (R160, R161); during reset they are discarded (R181). -/
def execPanelFrame (panel : Panel) (bytes : List Byte) (s : State) : Result :=
  .next (s.outsideReset (fun t => bytes.foldl (State.panelByte panel.source) t))

/-- A break or a framing error on a panel line (R160). -/
def execPanelLineBreak (panel : Panel) (s : State) : Result :=
  .next (s.outsideReset (fun t => t.receive panel.source .hunting))

/-- A panel transmitter has sent bytes of a reply, to its check byte where that many were left (R162). -/
def execPanelReplyDelivery (bytes : SentBytes) (s : State) : Result :=
  .next (s.outsideReset (fun t => t.modifyPort bytes.panel.source (fun p => p.send bytes.count)))

/-- RIGHTS (R166). -/
def execRights (src : Source) (port : Nat) (mask : Option Byte) (s : State) : Result :=
  .next (s.command src .rights true (State.piRights src port mask))

/-- EVENTS (R174). -/
def execEvents (src : Source) (s : State) : Result := .next (s.command src .events true (State.piEvents src))

/-- MASK (R175). -/
def execMask (src : Source) (m : BitVec 16) (s : State) : Result :=
  .next (s.command src .mask true (State.piMask src m))

end Sys2Proof.Machine
end

