-- ==== Sys2Proof/Machine/Reset.lean ====
section
/-! DEFINITION. Hardware reset: its start and its end (R157, R181). -/

namespace Sys2Proof.Machine

/-- A port record at the start of a hardware reset: a command in hand is abandoned, both places are emptied, and
the receiver and the transmitter stop (R157). -/
def Port.abandon (p : Port) : Port :=
  { p with
    condition := .free
    replyPlace := none
    refusalPlace := none
    first := none
    receiver := .hunting
    transmitter := none }

/-- The port records at the start of a hardware reset; a Player transaction in progress is discarded (R157). -/
def PortInterface.abandon (pi : PortInterface) : PortInterface :=
  { pi with
    player := pi.player.abandon
    panel1 := pi.panel1.abandon
    panel2 := pi.panel2.abandon
    panel3 := pi.panel3.abandon
    transaction := none }

/-- The QM without the work in flight and waiting (R42). -/
def QueueManager.dropWork (q : QueueManager) : QueueManager :=
  { q with inFlight := none, backlog := [], takeNext := none, notices := [], toStage := [] }

/-- Hardware reset begins: work in flight is abandoned, and a save cut short leaves its copy invalid (R157, R180,
R181; entry 34). -/
def execHardwareReset (s : State) : Result :=
  .next
    (((((s.withInReset true).withPorts s.ports.abandon).withQm s.qm.dropWork).withSl
      { s.sl with inFlight := none }).withPs { s.ps with saving := none })

/-- Reset ends: the profile is loaded from the nonvolatile copy or takes its defaults, and every block takes its
reset values (R181); outside reset nothing changes (entry 34). -/
def execEndOfReset (s : State) : Result :=
  .next (if s.inReset then (State.atEndOfReset s.ps.nonvolatile).withPending s.pending else s)

end Sys2Proof.Machine
end

