-- ==== Sys2Proof/Machine/Dispatch.lean ====
section
/-! DEFINITION. One arm per command: the meaning each is given. -/

namespace Sys2Proof.Machine

/-- A command's effect on everything but the queue of waiting commands. -/
def exec (i : Instr) (s : State) : Host.Outcome State Fault Refusal :=
  match i with
  | .add src p => Sys2Proof.Machine.execAdd src p s
  | .withdraw src ticket => Sys2Proof.Machine.execWithdraw src ticket s
  | .hold src ticket => Sys2Proof.Machine.execHold src ticket s
  | .release src ticket => Sys2Proof.Machine.execRelease src ticket s
  | .raise src ticket => Sys2Proof.Machine.execRaise src ticket s
  | .lower src ticket => Sys2Proof.Machine.execLower src ticket s
  | .singerAdd src name => Sys2Proof.Machine.execSingerAdd src name s
  | .singerDrop src number => Sys2Proof.Machine.execSingerDrop src number s
  | .clearQueue src => Sys2Proof.Machine.execClearQueue src s
  | .uncue src => Sys2Proof.Machine.execUncue src s
  | .takeNext src => Sys2Proof.Machine.execTakeNext src s
  | .addApplied => Sys2Proof.Machine.execAddApplied s
  | .withdrawApplied => Sys2Proof.Machine.execWithdrawApplied s
  | .holdApplied => Sys2Proof.Machine.execHoldApplied s
  | .releaseApplied => Sys2Proof.Machine.execReleaseApplied s
  | .raiseApplied => Sys2Proof.Machine.execRaiseApplied s
  | .lowerApplied => Sys2Proof.Machine.execLowerApplied s
  | .clearQueueApplied => Sys2Proof.Machine.execClearQueueApplied s
  | .singerAddApplied => Sys2Proof.Machine.execSingerAddApplied s
  | .singerDropApplied => Sys2Proof.Machine.execSingerDropApplied s
  | .uncueApplied => Sys2Proof.Machine.execUncueApplied s
  | .takeNextApplied => Sys2Proof.Machine.execTakeNextApplied s
  | .startNoticeApplied => Sys2Proof.Machine.execStartNoticeApplied s
  | .retireNoticeApplied => Sys2Proof.Machine.execRetireNoticeApplied s
  | .resetNoticeApplied => Sys2Proof.Machine.execResetNoticeApplied s
  | .list src position count => Sys2Proof.Machine.execList src position count s
  | .query src ticket => Sys2Proof.Machine.execQuery src ticket s
  | .history src start count => Sys2Proof.Machine.execHistory src start count s
  | .roster src first => Sys2Proof.Machine.execRoster src first s
  | .loadOpen src ticket count order => Sys2Proof.Machine.execLoadOpen src ticket count order s
  | .loadData src bytes => Sys2Proof.Machine.execLoadData src bytes s
  | .loadDataEnd => Sys2Proof.Machine.execLoadDataEnd s
  | .loadClose src => Sys2Proof.Machine.execLoadClose src s
  | .loadAbort src => Sys2Proof.Machine.execLoadAbort src s
  | .start src ticket offset => Sys2Proof.Machine.execStart src ticket offset s
  | .startConfirmation => Sys2Proof.Machine.execStartConfirmation s
  | .cueLostAnswer => Sys2Proof.Machine.execCueLostAnswer s
  | .pause src => Sys2Proof.Machine.execPause src s
  | .resume src => Sys2Proof.Machine.execResume src s
  | .stop src => Sys2Proof.Machine.execStop src s
  | .sync src time => Sys2Proof.Machine.execSync src time s
  | .key src k => Sys2Proof.Machine.execKey src k s
  | .keyStep src direction => Sys2Proof.Machine.execKeyStep src direction s
  | .tempo src p => Sys2Proof.Machine.execTempo src p s
  | .skipResult src => Sys2Proof.Machine.execSkipResult src s
  | .stageReset src => Sys2Proof.Machine.execStageReset src s
  | .resetConfirmation => Sys2Proof.Machine.execResetConfirmation s
  | .status src => Sys2Proof.Machine.execStatus src s
  | .timebaseMillisecond => Sys2Proof.Machine.execTimebaseMillisecond s
  | .songEnd => Sys2Proof.Machine.execSongEnd s
  | .retireConfirmation => Sys2Proof.Machine.execRetireConfirmation s
  | .holdTimerExpiry => Sys2Proof.Machine.execHoldTimerExpiry s
  | .analysisFrameCompletion edges => Sys2Proof.Machine.execAnalysisFrameCompletion edges s
  | .glyphLoad src p => Sys2Proof.Machine.execGlyphLoad src p s
  | .lyricStatus src => Sys2Proof.Machine.execLyricStatus src s
  | .idleText src text => Sys2Proof.Machine.execIdleText src text s
  | .zones src ht hl hm => Sys2Proof.Machine.execZones src ht hl hm s
  | .videoStatus src => Sys2Proof.Machine.execVideoStatus src s
  | .inputFrameStart lines => Sys2Proof.Machine.execInputFrameStart lines s
  | .lossTimerExpiry => Sys2Proof.Machine.execLossTimerExpiry s
  | .outputFrameStart => Sys2Proof.Machine.execOutputFrameStart s
  | .playerWriteTransaction mosi rise => Sys2Proof.Machine.execPlayerWriteTransaction mosi rise s
  | .playerReadTransaction clocked rise => Sys2Proof.Machine.execPlayerReadTransaction clocked rise s
  | .panelFrame panel bytes => Sys2Proof.Machine.execPanelFrame panel bytes s
  | .panelLineBreak panel => Sys2Proof.Machine.execPanelLineBreak panel s
  | .panelReplyDelivery bytes => Sys2Proof.Machine.execPanelReplyDelivery bytes s
  | .rights src port mask => Sys2Proof.Machine.execRights src port mask s
  | .events src => Sys2Proof.Machine.execEvents src s
  | .mask src m => Sys2Proof.Machine.execMask src m s
  | .profileSet src field value => Sys2Proof.Machine.execProfileSet src field value s
  | .profileGet src field => Sys2Proof.Machine.execProfileGet src field s
  | .profileSave src => Sys2Proof.Machine.execProfileSave src s
  | .profileSaveEnd matched => Sys2Proof.Machine.execProfileSaveEnd matched s
  | .hardwareReset => Sys2Proof.Machine.execHardwareReset s
  | .endOfReset => Sys2Proof.Machine.execEndOfReset s

end Sys2Proof.Machine
end

