-- ==== Sys2Proof/Machine/Frames.lean ====
section
/-! DEFINITION. The command frames of the commands that ports carry: each command row of the table with the bytes
that spell it (R168, R169). The statements about frames are made in terms of these. -/

namespace Sys2Proof.Machine

/-- A command as a port carries it: where it comes from, its code and its parameter bytes. -/
structure CommandFrame where
  source : Source
  command : Command
  params : List Byte
  deriving DecidableEq, Repr

/-- The bytes of a command frame (R168). -/
def CommandFrame.bytes (f : CommandFrame) : List Byte :=
  f.command.code :: BitVec.ofNat 8 f.params.length :: f.params

/-- ADD's parameter bytes (R169). -/
def addBytes (p : AddParams) : List Byte :=
  be3 p.song ++ encText p.title ++ encRoster p.singer ++ encRoster p.partner ++ be1 p.duet ++ encSigned p.startKey
    ++ be1 p.tempo ++ be1 p.wantsPriority

/-- A mask row's four bytes (R169). -/
def rowBytes (r : MaskRow) : List Byte := be2 (r.toNat / 65536) ++ be2 r.toNat

/-- GLYPH-LOAD's parameter bytes (R111, R169). -/
def glyphBytes (p : GlyphParams) : List Byte :=
  be2 p.code ++ be1 p.advance ++ be1 p.maskWidth ++ p.rows.flatMap rowBytes

/-- The frame of a command; the rows that no frame carries have none. -/
def commandFrame : Instr → Option CommandFrame
  | .add src p => some ⟨src, .add, addBytes p⟩
  | .withdraw src t => some ⟨src, .withdraw, be2 t⟩
  | .hold src t => some ⟨src, .hold, be2 t⟩
  | .release src t => some ⟨src, .release, be2 t⟩
  | .raise src t => some ⟨src, .raise, be2 t⟩
  | .lower src t => some ⟨src, .lower, be2 t⟩
  | .singerAdd src name => some ⟨src, .singerAdd, encText name⟩
  | .singerDrop src n => some ⟨src, .singerDrop, be1 n⟩
  | .clearQueue src => some ⟨src, .clearQueue, []⟩
  | .uncue src => some ⟨src, .uncue, []⟩
  | .takeNext src => some ⟨src, .takeNext, []⟩
  | .list src p c => some ⟨src, .list, be1 p ++ be1 c⟩
  | .query src t => some ⟨src, .query, be2 t⟩
  | .history src st c => some ⟨src, .history, be1 st ++ be1 c⟩
  | .roster src first => some ⟨src, .roster, (first.map be1).getD []⟩
  | .loadOpen src t c o => some ⟨src, .loadOpen, be2 t ++ be2 c ++ be1 o⟩
  | .loadData src bytes => some ⟨src, .loadData, bytes⟩
  | .loadClose src => some ⟨src, .loadClose, []⟩
  | .loadAbort src => some ⟨src, .loadAbort, []⟩
  | .start src t o => some ⟨src, .start, be2 t ++ be3 o⟩
  | .pause src => some ⟨src, .pause, []⟩
  | .resume src => some ⟨src, .resume, []⟩
  | .stop src => some ⟨src, .stop, []⟩
  | .sync src t => some ⟨src, .sync, be3 t⟩
  | .key src k => some ⟨src, .key, encSigned k⟩
  | .keyStep src d => some ⟨src, .keyStep, encSigned d⟩
  | .tempo src p => some ⟨src, .tempo, be1 p⟩
  | .skipResult src => some ⟨src, .skipResult, []⟩
  | .stageReset src => some ⟨src, .stageReset, []⟩
  | .status src => some ⟨src, .status, []⟩
  | .glyphLoad src p => some ⟨src, .glyphLoad, glyphBytes p⟩
  | .lyricStatus src => some ⟨src, .lyricStatus, []⟩
  | .idleText src text => some ⟨src, .idleText, encText text⟩
  | .zones src ht hl hm => some ⟨src, .zones, be1 ht ++ be2 hl ++ be1 hm⟩
  | .videoStatus src => some ⟨src, .videoStatus, []⟩
  | .rights src port mask => some ⟨src, .rights, be1 port ++ mask.toList⟩
  | .events src => some ⟨src, .events, []⟩
  | .mask src m => some ⟨src, .mask, be2 m.toNat⟩
  | .profileSet src field v => some ⟨src, .profileSet, be1 field ++ encProfileValue v⟩
  | .profileGet src field => some ⟨src, .profileGet, be1 field⟩
  | .profileSave src => some ⟨src, .profileSave, []⟩
  | .addApplied => none
  | .withdrawApplied => none
  | .holdApplied => none
  | .releaseApplied => none
  | .raiseApplied => none
  | .lowerApplied => none
  | .clearQueueApplied => none
  | .singerAddApplied => none
  | .singerDropApplied => none
  | .uncueApplied => none
  | .takeNextApplied => none
  | .startNoticeApplied => none
  | .retireNoticeApplied => none
  | .resetNoticeApplied => none
  | .loadDataEnd => none
  | .startConfirmation => none
  | .cueLostAnswer => none
  | .resetConfirmation => none
  | .timebaseMillisecond => none
  | .songEnd => none
  | .retireConfirmation => none
  | .holdTimerExpiry => none
  | .analysisFrameCompletion _ => none
  | .inputFrameStart _ => none
  | .lossTimerExpiry => none
  | .outputFrameStart => none
  | .playerWriteTransaction _ _ => none
  | .playerReadTransaction _ _ => none
  | .panelFrame _ _ => none
  | .panelLineBreak _ => none
  | .panelReplyDelivery _ => none
  | .profileSaveEnd _ => none
  | .hardwareReset => none
  | .endOfReset => none

end Sys2Proof.Machine
end

