-- ==== Sys2Proof/Safety.lean ====
section
/-! DEFINITION. What the statements are about: when a port takes a command, and the properties of a state that every
step keeps. -/

namespace Sys2Proof.Machine

/-! ### When a command is taken (R163) -/

/-- The port takes the command: the part is not in reset, the port is FREE, and the availability table allows
the command on it. -/
def State.accepts (s : State) (src : Source) (c : Command) : Prop :=
  s.inReset = false ∧ (s.port src).condition = .free ∧ c.allowed src = true

/-- The QM is idle (R29). -/
def QueueManager.idle (q : QueueManager) : Prop := q.inFlight = none

/-- Nothing waits at the QM (R29). -/
def QueueManager.calm (q : QueueManager) : Prop := q.backlog = [] ∧ q.takeNext = none ∧ q.notices = []

/-- Whenever the QM is idle, nothing waits, and a waiting TAKE-NEXT counts no more edits ahead of it than there are
(R29, R32). -/
def QueueManager.waitsInOrder (q : QueueManager) : Prop :=
  (q.idle → q.calm) ∧ ∀ k, q.takeNext = some k → k ≤ q.backlog.length

/-- The QM with its queue, roster, history and ticket counter as in another: the applied queue of R10. -/
def QueueManager.sameApplied (q r : QueueManager) : Prop :=
  q.queue = r.queue ∧ q.roster = r.roster ∧ q.history = r.history ∧ q.ticketCounter = r.ticketCounter

/-! ### The commands by what they do (chapter 2) -/

/-- The backlog item that a command row of an edit makes (R30). -/
def editOf : Instr → Option BacklogItem
  | .add src p => some ⟨src, .add p⟩
  | .withdraw src t => some ⟨src, .withdraw t⟩
  | .hold src t => some ⟨src, .hold t⟩
  | .release src t => some ⟨src, .release t⟩
  | .raise src t => some ⟨src, .raise t⟩
  | .lower src t => some ⟨src, .lower t⟩
  | .uncue src => some ⟨src, .uncue⟩
  | .clearQueue src => some ⟨src, .clearQueue⟩
  | .singerAdd src name => some ⟨src, .singerAdd name⟩
  | .singerDrop src n => some ⟨src, .singerDrop n⟩
  | _ => none

/-- The arrival checks of R12 and R22, which every other edit joins without. -/
def Edit.admitted : Edit → Prop
  | .add p =>
    1 ≤ p.song ∧ p.song ≤ 999999 ∧ p.title.length ≤ 24 ∧ (∀ c ∈ p.title, c ≤ 1023) ∧ p.duet ≤ 1
      ∧ p.wantsPriority ≤ 1
  | .singerAdd name => 1 ≤ name.length ∧ name.length ≤ 12 ∧ ∀ c ∈ name, c ≤ 1023
  | _ => True

/-- The edit whose end a row is. -/
def endOf : Instr → Option Command
  | .addApplied => some .add
  | .withdrawApplied => some .withdraw
  | .holdApplied => some .hold
  | .releaseApplied => some .release
  | .raiseApplied => some .raise
  | .lowerApplied => some .lower
  | .clearQueueApplied => some .clearQueue
  | .singerAddApplied => some .singerAdd
  | .singerDropApplied => some .singerDrop
  | .uncueApplied => some .uncue
  | _ => none

/-- The row is the end of a queue operation, or the end of reset (R28, R181). -/
def endsOperation : Instr → Bool
  | .takeNextApplied => true
  | .startNoticeApplied => true
  | .retireNoticeApplied => true
  | .resetNoticeApplied => true
  | .endOfReset => true
  | i => (endOf i).isSome

/-! ### The ports (R157, R162) -/

/-- A port record is consistent: ANSWERED exactly while the reply place is filled; the delivery order names a
filled place exactly while one is filled; a transmitter sends the reply that stands first, and has bytes of it left. -/
def Port.consistent (p : Port) : Prop :=
  (p.replyPlace.isSome ↔ p.condition = .answered)
    ∧ (p.first = none ↔ p.replyPlace = none ∧ p.refusalPlace = none)
    ∧ (∀ pl, p.first = some pl → (p.place pl).isSome)
    ∧ ∀ t, p.transmitter = some t → p.first = some t.place ∧ t.left ≠ []

/-- A panel's transmitter is idle only while no reply waits (R162). -/
def Port.sendsAtOnce (p : Port) : Prop := p.transmitter = none → p.first = none

/-- A Player read in progress sends the reply that stands first, and has bytes of it left (R159). -/
def PortInterface.readsFirst (pi : PortInterface) : Prop :=
  ∀ pl left, pi.transaction = some (.reading pl left) → pi.player.first = some pl ∧ left ≠ []

/-- Every port record is consistent, panels send at once, a Player read sends what stands first, and the Player port has no
transmitter. -/
def State.portsConsistent (s : State) : Prop :=
  (∀ src, (s.port src).consistent) ∧ (∀ panel : Panel, (s.port panel.source).sendsAtOnce) ∧ s.ports.readsFirst
    ∧ s.ports.player.transmitter = none

/-! ### The queue (R1 to R7) -/

/-- The queue's places, the history's places and the tickets: at most 40 entries and 16 records, tickets 1..999
that differ across the queue and the history, the counter in 1..999 (R3, R4, R6). -/
def QueueManager.wellKept (q : QueueManager) : Prop :=
  q.queue.length ≤ 40 ∧ q.history.length ≤ 16
    ∧ (q.queue.map (fun e => e.ticket) ++ q.history.map (fun h => h.ticket)).Nodup
    ∧ (∀ e ∈ q.queue, 1 ≤ e.ticket ∧ e.ticket ≤ 999) ∧ 1 ≤ q.ticketCounter ∧ q.ticketCounter ≤ 999

/-- The section an entry stands in, counted from the front of the queue (R3). -/
def Entry.section (e : Entry) : Nat :=
  match e.state, e.cls with
  | .playing, _ => 0
  | .cued, _ => 1
  | _, .priority => 2
  | _, .normal => 3

/-- The queue stands in its four sections, holds at most one CUED entry, and no two WAITING or HELD entries of it
have the same song (R3). -/
def QueueManager.inOrder (q : QueueManager) : Prop :=
  q.queue.Pairwise (fun a b => a.section ≤ b.section) ∧ q.queue.countP (fun e => e.state == .cued) ≤ 1
    ∧ ((q.queue.filter Entry.waits).map (fun e => e.song)).Nodup

/-- A start key and a tempo in their ranges (R1, R66). -/
def pitchAndPace (key : Int) (tempo : Nat) : Prop := -6 ≤ key ∧ key ≤ 6 ∧ 85 ≤ tempo ∧ tempo ≤ 115

/-- An entry's requesters: at least one pair, one per source, each of 1..15 votes; its start key and tempo in
range (R1, R2). -/
def Entry.sound (e : Entry) : Prop :=
  e.requesters ≠ [] ∧ (e.requesters.map (fun r => r.source)).Nodup
    ∧ (∀ r ∈ e.requesters, 1 ≤ r.votes ∧ r.votes ≤ 15) ∧ pitchAndPace e.startKey e.tempo

/-- A confirmation on its way carries a key and a tempo in range (R68). -/
def Confirmation.sound : Confirmation → Prop
  | .start key tempo _ => pitchAndPace key tempo
  | .cueLost => True
  | .retire => True
  | .reset => True

/-- The entries, the confirmations and the stage hold keys and tempos in range, and so is the clock's remainder (R1,
R66). -/
def State.songSettingsInRange (s : State) : Prop :=
  (∀ e ∈ s.qm.queue, e.sound) ∧ (∀ c ∈ s.qm.toStage, c.sound) ∧ pitchAndPace s.sc.key s.sc.tempo
    ∧ s.sc.remainder ≤ 99

/-! ### The cue slots (R44, R51, R54) -/

/-- A load: at most 6,144 records, counted down with them, at most two clamps for each, and an end time exactly when END
was accepted. -/
def Load.sound (l : Load) : Prop :=
  l.records.length ≤ 6144 ∧ (∀ n, l.remaining = some n → l.records.length + n ≤ 6144)
    ∧ l.clamps ≤ 2 * l.records.length ∧ l.tracking.ended = l.index.endTime.isSome

/-- A slot holds at most 6,144 records and a clamp count of at most 12,288, and a LOADED or PLAYING one has an end time. -/
def Slot.sound : Slot → Prop
  | .empty => True
  | .loading l => l.sound
  | .loaded g => g.records.length ≤ 6144 ∧ g.clamps ≤ 12288 ∧ g.index.endTime.isSome
  | .failed f => f.records.length ≤ 6144 ∧ f.clamps ≤ 12288
  | .playing g => g.records.length ≤ 6144 ∧ g.clamps ≤ 12288 ∧ g.index.endTime.isSome

/-- Both slots are sound. -/
def SongLoader.sound (sl : SongLoader) : Prop := sl.slotA.sound ∧ sl.slotB.sound

/-! ### The queue, the slots and the stage together (R3, R37, R44, R66) -/

/-- What is on its way between the SC and the QM: a notice that waits or is in flight, or its answer. -/
inductive Token where
  | startNotice (ticket : Nat)
  | retireNotice
  | resetNotice
  | started
  | lost
  | retired
  | wasReset
  deriving DecidableEq, Repr

/-- The token of a notice (R31). -/
def Notice.token : Notice → Token
  | .start ticket => .startNotice ticket
  | .retire _ _ _ => .retireNotice
  | .reset _ => .resetNotice

/-- The token of an answer (R37 to R39). -/
def Confirmation.token : Confirmation → Token
  | .start _ _ _ => .started
  | .cueLost => .lost
  | .retire => .retired
  | .reset => .wasReset

/-- Everything on its way, in the order it reaches the SC: the answers sent, the notice in flight, the notices waiting. -/
def QueueManager.onItsWay (q : QueueManager) : List Token :=
  q.toStage.map Confirmation.token ++ q.noticeInFlight.toList.map Notice.token ++ q.notices.map Notice.token

/-- How many entries are PLAYING. -/
def QueueManager.playingCount (q : QueueManager) : Nat := q.queue.countP (fun e => e.state == .playing)

/-- The CUED entry, while it carries this ticket, has its song LOADED: what a START that waits relies on (R37). -/
def State.cueReady (s : State) (ticket : Nat) : Prop :=
  (∃ e ∈ s.qm.queue, e.state = .cued ∧ e.ticket = ticket) → ∃ n g, s.sl.get n = .loaded g ∧ g.ticket = ticket

/-- What each stage state says of the pending start, of what is on its way and of the PLAYING entry (R66's table of the
notices that wait). -/
def State.stageLinked (s : State) : Prop :=
  match s.sc.stage with
  | .ready => s.qm.onItsWay = [] ∧ s.sc.pendingStart = none ∧ s.qm.playingCount = 0
  | .result => s.qm.onItsWay = [] ∧ s.sc.pendingStart = none ∧ s.qm.playingCount = 0
  | .playing => s.qm.onItsWay = [] ∧ s.sc.pendingStart = none ∧ s.qm.playingCount = 1
  | .paused => s.qm.onItsWay = [] ∧ s.sc.pendingStart = none ∧ s.qm.playingCount = 1
  | .starting => ∃ p, s.sc.pendingStart = some p
      ∧ ((s.qm.onItsWay = [.startNotice p.ticket] ∧ s.qm.playingCount = 0 ∧ s.cueReady p.ticket)
        ∨ (s.qm.onItsWay = [.started] ∧ s.qm.playingCount = 1)
        ∨ (s.qm.onItsWay = [.lost] ∧ s.qm.playingCount = 0))
  | .ending => s.sc.pendingStart = none
      ∧ ((s.qm.onItsWay = [.retireNotice] ∧ s.qm.playingCount = 1)
        ∨ (s.qm.onItsWay = [.retired] ∧ s.qm.playingCount = 0))
  | .resetting => s.sc.pendingStart = none
      ∧ ((s.qm.onItsWay = [.resetNotice] ∧ s.qm.playingCount ≤ 1)
        ∨ (s.qm.onItsWay = [.retireNotice, .resetNotice] ∧ s.qm.playingCount = 1)
        ∨ ((s.qm.onItsWay = [.retired, .resetNotice] ∨ s.qm.onItsWay = [.retired, .wasReset]
              ∨ s.qm.onItsWay = [.wasReset]) ∧ s.qm.playingCount = 0))

/-- The work that keeps the Player's command outstanding until it ends: its edits, TAKE-NEXT, LOAD-DATA, PROFILE-SAVE,
START and STAGE-RESET (R164). A STOP is outstanding while ENDING or RESETTING wait, and has no record of its own. -/
def State.playerWork (s : State) : List Command :=
  (match s.qm.inFlight with
    | some f =>
      match f.op with
      | .edit item => if item.source = .player then [item.edit.command] else []
      | .takeNext => [.takeNext]
      | .notice _ => []
    | none => [])
  ++ (s.qm.backlog.filter (fun item => item.source == .player)).map (fun item => item.edit.command)
  ++ (if s.qm.takeNext.isSome then [.takeNext] else [])
  ++ (if s.sl.inFlight.isSome then [.loadData] else [])
  ++ (if s.ps.saving.isSome then [.profileSave] else [])
  ++ (if s.sc.stage = .starting then [.start] else [])
  ++ (if s.sc.stage = .resetting then [.stageReset] else [])

/-- The Player has at most one piece of work in hand, and its port is OUTSTANDING with that command (R157, R164). -/
def State.playerLinked (s : State) : Prop :=
  s.playerWork = [] ∨ ∃ c, s.playerWork = [c] ∧ s.ports.player.condition = .outstanding c.code

/-- At most one entry is PLAYING; a slot is PLAYING exactly when the PLAYING entry carries its ticket, every other slot that is
not EMPTY carries the CUED entry's, and no two carry the same (R3, R37, R44). -/
def State.slotsLinked (s : State) : Prop :=
  s.qm.playingCount ≤ 1
    ∧ (∀ n g, s.sl.get n = .playing g → ∃ e ∈ s.qm.queue, e.state = .playing ∧ e.ticket = g.ticket)
    ∧ (∀ e ∈ s.qm.queue, e.state = .playing → ∃ n g, s.sl.get n = .playing g ∧ g.ticket = e.ticket)
    ∧ (∀ n t, (s.sl.get n).ticket = some t → (s.sl.get n).isPlaying = false →
        ∃ e ∈ s.qm.queue, e.state = .cued ∧ e.ticket = t)
    ∧ ∀ t, s.sl.slotA.ticket = some t → s.sl.slotB.ticket ≠ some t

/-- Outside reset the queue, the slots, the stage and the Player's work in hand fit together. -/
def State.linked (s : State) : Prop :=
  s.inReset = false → s.stageLinked ∧ s.playerLinked ∧ s.slotsLinked

/-! ### The pitch reports (R87, R91) -/

/-- A report's level, key and sung pitch are in their ranges (R91). -/
def PitchReport.sound (r : PitchReport) : Prop :=
  -90 ≤ r.level ∧ r.level ≤ 0 ∧ -6 ≤ r.key ∧ r.key ≤ 6 ∧ ∀ p, r.pitch = some p → 3600 ≤ p ∧ p ≤ 9600

/-- The PT: 0 to 479 samples of the frame in progress, a latched key in range, previous frames of 480 samples, reports in
their ranges, and at most 16 bits of the sample being received (R86, R87, R91). -/
def PitchTracker.sound (p : PitchTracker) : Prop :=
  p.inProgress.length < 480 ∧ -6 ≤ p.latchedKey ∧ p.latchedKey ≤ 6 ∧ p.receiver.bits.length ≤ 16
    ∧ ∀ l, (p.lanes.get l).previous.length = 480 ∧ ∀ r, (p.lanes.get l).newest = some r → r.sound

/-! ### The microphone input (R86) -/

/-- Rising edges of the bit clock while the word clock stays at one level, with their data bits. -/
def edgesAt (level : Bool) (bits : List Bool) : List BitClockEdge := bits.map (fun b => ⟨level, b⟩)

/-- The bits of a sample in the order they are sent, the most significant first. -/
def sampleBits (x : Sample) : List Bool := (List.range 16).map x.getMsbD

/-! ### The scores (R92, R100 to R103) -/

/-- A lane's record: Q is at most 8 N, N at most 131,071, at most 6,144 notes graded and as many as the grade
counts sum to, the streaks at most the notes graded, at most 16 recent grades, and an open note with at least one
frame and at most 8 hits a frame. -/
def ScoreLane.sound (k : ScoreLane) : Prop :=
  k.hitSum ≤ 8 * k.frameCount ∧ k.frameCount ≤ 131071 ∧ k.graded ≤ 6144
    ∧ k.counts.perfect + k.counts.good + k.counts.fair + k.counts.miss = k.graded
    ∧ k.streak ≤ k.maxStreak ∧ k.maxStreak ≤ k.graded ∧ k.recent.length ≤ 16
    ∧ ∀ n, k.openNote = some n → 1 ≤ n.frames ∧ n.hits ≤ 8 * n.frames

/-- Both lanes are sound. -/
def ScoreUnit.sound (u : ScoreUnit) : Prop := u.lanes.lane0.sound ∧ u.lanes.lane1.sound

/-! ### The profile and the picture (R146, R152, R178) -/

/-- Every field of the profile is in its range: clamping would leave it as it is (R178). -/
def Profile.inRange (p : Profile) : Prop := ∀ f : ProfileField, f.range.clamp (p.get f) = p.get f

/-- The live profile, the live display settings, the nonvolatile copy and a copy being saved are in range, the live
picture size is one the part takes, and since the first output frame start the live zone heights fit it (R146, R152,
R178). -/
def State.settingsInRange (s : State) : Prop :=
  s.ps.profile.inRange ∧ (s.ps.profile.stage s.vc.live).inRange ∧ (∀ p, s.ps.nonvolatile = some p → p.inRange) ∧ (∀ p, s.ps.saving = some p → p.inRange)
    ∧ 640 ≤ s.vc.width ∧ s.vc.width ≤ 1280 ∧ 360 ≤ s.vc.height ∧ s.vc.height ≤ 720
    ∧ (s.vc.picture.isSome → s.vc.live.ht + s.vc.live.hl + s.vc.live.hm ≤ s.vc.height)

/-! ### The lyric counts (R112, R113) -/

/-- The stopping counts of the LR are at most 65,535, and the glyph table is in its canonical form. -/
def LyricRenderer.sound (r : LyricRenderer) : Prop :=
  glyphTableWf r.glyphs ∧ r.missing ≤ 65535 ∧ r.overflow ≤ 65535 ∧ r.dropped ≤ 65535

/-- The zone shows no more rows than fit: in PLAYING and PAUSED the mode is ROWS, in any other mode there are no shown lines, and
the rows they hold are at most the effective row count (R113, R114, R121). -/
def State.lyricRowsFit (s : State) : Prop :=
  ((s.sc.stage = .playing ∨ s.sc.stage = .paused) → s.lr.mode = .rows) ∧ (s.lr.mode ≠ .rows → s.lr.stack = [])
    ∧ rowsHeld s.lr.stack ≤ s.vc.geometry.rows

/-- A state in which everything the statements call well kept is so. -/
def State.sound (s : State) : Prop :=
  s.portsConsistent ∧ s.qm.wellKept ∧ s.qm.inOrder ∧ s.qm.waitsInOrder ∧ s.linked ∧ s.songSettingsInRange ∧ s.sl.sound
    ∧ s.pt.sound ∧ s.su.sound ∧ s.settingsInRange ∧ s.lr.sound ∧ s.lyricRowsFit

/-- A safe step: it answers a next state, which is sound where the state was. The spec gives the part no fault. -/
def safeStep (s : State) : Prop := ∃ t, step s = .next t ∧ (s.sound → t.sound)

end Sys2Proof.Machine
end

