-- ==== Sys2Proof/Certificates/Slice0/Obligations.lean ====
section
/-! DEFINITION. The statements for the provers. An equation `exec c s = .next t` gives the whole next state: what
it does not change is unchanged. -/

open Sys2Proof Sys2Proof.Machine

/-! ### The machine -/

/-- One step is the command at the front of the queue run with the queue's rest; an empty queue idles (entry 6, the
model's choice). -/
def Obligations.StepTakesTheFront : Prop :=
  (∀ (c : Instr) (q : List Instr) (s : State), step (s.withPending (c :: q)) = exec c (s.withPending q))
    ∧ ∀ s : State, s.pending = [] → step s = .next s

/-- Every command ends in a next state: the spec gives no error state (where a command finds nothing of its kind, the
model's choices of entries 3, 14 and 34). It leaves the queue of waiting commands, and only the two reset events move
the part in and out of reset. -/
def Obligations.EveryCommandAnswers : Prop :=
  ∀ (c : Instr) (s : State), ∃ t, exec c s = .next t ∧ t.pending = s.pending
    ∧ (c ≠ .hardwareReset → c ≠ .endOfReset → t.inReset = s.inReset)

/-- During reset the ports receive nothing and nothing else acts (entry 34, the model's reading), and a Player transaction
reads 0xFF throughout (R181). -/
def Obligations.NothingHappensInReset : Prop :=
  ∀ s : State, s.inReset = true →
    (∀ c : Instr, c ≠ .hardwareReset → c ≠ .endOfReset → (∀ m b, c ≠ .playerWriteTransaction m b) →
      (∀ n b, c ≠ .playerReadTransaction n b) → exec c s = .next s)
    ∧ (∀ m b, exec (.playerWriteTransaction m b) s
        = .next (s.withPorts { s.ports with miso := List.replicate (m.length - 1) 0xFF#8 }))
    ∧ ∀ n b, exec (.playerReadTransaction n b) s
        = .next (s.withPorts { s.ports with miso := List.replicate n 0xFF#8 })

/-- The state after reset meets every invariant the statements speak of (its nonvolatile copy is the model's choice, entry 8),
and so does the end of any reset that finds a valid copy. -/
def Obligations.ResetIsSound : Prop :=
  State.reset.sound ∧ ∀ p : Profile, p.inRange → (State.atEndOfReset (some p)).sound

/-- A reset begins: work in hand is abandoned and a Player transaction is discarded (R42, R157, R180), and nothing else changes
yet (entry 34, the model's choice). It ends: every block holds its hardware-reset values, the profile is the valid copy's or
the defaults, and every attention line is high (R177, R181; the live settings and the picture by entries 9 and 10, the
microphone receiver by entry 12, the model's choices). -/
def Obligations.HardwareResetRuns : Prop :=
  (∀ s : State, ∃ t, exec .hardwareReset s = .next t ∧ t.inReset = true
    ∧ (∀ src, t.port src
        = { s.port src with
            condition := .free, replyPlace := none, refusalPlace := none, first := none, receiver := .hunting,
            transmitter := none })
    ∧ t.ports.transaction = none ∧ t.ports.miso = s.ports.miso
    ∧ t.qm = { s.qm with inFlight := none, backlog := [], takeNext := none, notices := [], toStage := [] }
    ∧ t.sl = { s.sl with inFlight := none } ∧ t.ps = { s.ps with saving := none }
    ∧ t.sc = s.sc ∧ t.pt = s.pt ∧ t.su = s.su ∧ t.lr = s.lr ∧ t.tu = s.tu ∧ t.mu = s.mu ∧ t.vc = s.vc)
  ∧ (∀ s : State, s.inReset = true → ∃ t, exec .endOfReset s = .next t ∧ t.inReset = false
    ∧ t.ps.profile = s.ps.nonvolatile.getD Profile.defaults ∧ t.ps.nonvolatile = s.ps.nonvolatile
    ∧ t.ps.saving = none ∧ (t.ps.defaulted = true ↔ s.ps.nonvolatile = none)
    ∧ t.qm.queue = [] ∧ t.qm.history = [] ∧ (∀ n, t.qm.singerAt n = none) ∧ t.qm.ticketCounter = 1
    ∧ t.qm.inFlight = none ∧ t.qm.backlog = [] ∧ t.qm.takeNext = none ∧ t.qm.notices = [] ∧ t.qm.toStage = []
    ∧ t.sl = ⟨.empty, .empty, none⟩ ∧ t.sc = ⟨.ready, 0, 0, 0, 100, 0, none, .stopped, none⟩
    ∧ t.pt.receiver = ⟨none, false, [], none⟩ ∧ t.pt.inProgress = [] ∧ t.pt.latchedKey = 0
    ∧ (∀ l, t.pt.lanes.get l = ⟨List.replicate 480 0#16, none, true⟩)
    ∧ (∀ l, t.su.lanes.get l = ⟨none, none, 0, 0, 0, ⟨0, 0, 0, 0⟩, 0, 0, [], false⟩)
    ∧ t.su.mode = .solo ∧ t.su.guarded = false
    ∧ t.lr = ⟨[], 0, .empty, [], [], 1, none, 0, none, 0, 0, false⟩
    ∧ t.tu = ⟨[], [], 0, t.ps.profile.tickerCount, true, []⟩ ∧ t.mu.window = none
    ∧ t.vc = ⟨.lost, false, 1280, 720, none, none, none, true, t.ps.profile.staged, none⟩
    ∧ t.ports.transaction = none
    ∧ (∀ src, (t.port src).events = Event.partReset.bit ∧ (t.port src).condition = .free
        ∧ (t.port src).replyPlace = none ∧ (t.port src).refusalPlace = none ∧ (t.port src).first = none
        ∧ (t.port src).receiver = .hunting ∧ (t.port src).transmitter = none
        ∧ (t.port src).mask = (if src = .player then 0xFFF#12 else 0x839#12) ∧ t.attention src = true)
    ∧ ∀ panel : Panel, (t.port panel.source).rights = t.ps.profile.defaultRights)

/-! ### What every step keeps -/

/-- The port records stay consistent: ANSWERED with a reply, panels sending what waits, and a reply that is being sent still
in its place with bytes left (R157, R159, R162). -/
def Obligations.PortsStayConsistent : Prop :=
  ∀ s t : State, s.portsConsistent → step s = .next t → t.portsConsistent

/-- The queue, the history and the tickets stay within their bounds, and no two records share a ticket. -/
def Obligations.QueueStaysWellKept : Prop :=
  ∀ s t : State, s.qm.wellKept → step s = .next t → t.qm.wellKept

/-- The queue stays in its four sections, with at most one CUED entry and no song waiting twice. Whenever the QM is idle,
nothing waits (R29). At most one entry is PLAYING, a slot is PLAYING exactly when that entry carries its ticket, every other
slot that is not EMPTY carries the CUED entry's, and no two the same (R3, R37, R44): this last, together with what is on its
way between the QM and the stage, is `State.linked`. -/
def Obligations.QueueKeepsItsOrder : Prop :=
  (∀ s t : State, s.qm.wellKept → s.qm.inOrder → step s = .next t → t.qm.inOrder)
  ∧ (∀ s t : State, s.qm.waitsInOrder → step s = .next t → t.qm.waitsInOrder)
  ∧ (∀ s t : State, s.portsConsistent → s.qm.wellKept → s.qm.inOrder → s.qm.waitsInOrder → s.linked →
      step s = .next t → t.linked)

/-- Keys stay in -6..6, tempos in 85..115, the clock's remainder in 0..99, and every entry keeps 1 to 15 votes a pair from
distinct sources. -/
def Obligations.SongSettingsStayInRange : Prop :=
  ∀ s t : State, s.songSettingsInRange → step s = .next t → t.songSettingsInRange

/-- A cue slot never holds more than 6,144 records or a clamp count above 12,288, and a LOADED or PLAYING one has its end
time. -/
def Obligations.SlotsStaySound : Prop :=
  ∀ s t : State, s.sl.sound → step s = .next t → t.sl.sound

/-- The score bounds of each lane hold: Q at most 8 N, N at most 131,071, the streak at most the notes graded (R92, R101,
R103). The glyph table stays in its form and the stopping counts of the LR at most 65,535 (R110, R112, R113). The PT never
holds more than 479 samples of a frame in progress, and its reports stay in the ranges of R91. -/
def Obligations.CountsStaySound : Prop :=
  (∀ s t : State, s.su.sound → step s = .next t → t.su.sound)
  ∧ (∀ s t : State, s.lr.sound → step s = .next t → t.lr.sound)
  ∧ (∀ s t : State, s.songSettingsInRange → s.pt.sound → step s = .next t → t.pt.sound)

/-- The profile stays in its ranges, the picture size in the sizes taken, and the live zones fit the picture. -/
def Obligations.ProfileAndPictureStayInRange : Prop :=
  ∀ s t : State, s.settingsInRange → step s = .next t → t.settingsInRange

/-- Nothing but the end of a queue operation, or of reset, changes the queue, roster, history or ticket counter. -/
def Obligations.AppliedQueueChangesOnlyAtEnds : Prop :=
  ∀ (c : Instr) (s t : State), endsOperation c = false → exec c s = .next t → t.qm.sameApplied s.qm

/-- Whatever bytes a panel sends, they reach at once only its own port, the QM's waiting work, the stage key where
the panel holds the KEY right, and the other ports' event sets. -/
def Obligations.PanelsReachOnlyTheirOwn : Prop :=
  ∀ (panel : Panel) (bytes : List Byte) (s t : State), exec (.panelFrame panel bytes) s = .next t →
    t.qm.sameApplied s.qm ∧ t.sl = s.sl ∧ t.pt = s.pt ∧ t.su = s.su ∧ t.lr = s.lr ∧ t.tu = s.tu ∧ t.mu = s.mu
      ∧ t.vc = s.vc ∧ t.ps = s.ps ∧ t.inReset = s.inReset
      ∧ t.ports.transaction = s.ports.transaction ∧ t.ports.miso = s.ports.miso
      ∧ { t.sc with key := s.sc.key } = s.sc
      ∧ (rightsHold (s.port panel.source).rights .key = false → t.sc = s.sc)
      ∧ (t.port panel.source).rights = (s.port panel.source).rights
      ∧ ∀ src, src ≠ panel.source → { t.port src with events := (s.port src).events } = s.port src

/-! ### Frames and replies (chapter 9) -/

/-- A whole Player write transaction of a well-formed command's frame does what the command does, every parameter read. That
the command's row is its whole work in one step is the model's reading (entries 1 and 2); what the part shifts out meanwhile
is the model's own record (entry 37). -/
def Obligations.PlayerFrameIsItsCommand : Prop :=
  ∀ (i : Instr) (f : CommandFrame) (stray : List Bool) (s : State), i.wellFormed = true →
    commandFrame i = some f → f.source = .player → s.ports.transaction = none →
    ∃ t, exec i (s.shiftOut (List.replicate f.bytes.length 0xFF#8)) = .next t
      ∧ exec (.playerWriteTransaction (0x3C#8 :: f.bytes) (some stray)) s = .next t

/-- The bytes of a well-formed command's frame on a panel line whose receiver is HUNTING, marker and check byte included, do
what the command does. That the command's row is its whole work in one step is the model's reading (entries 1 and 2). -/
def Obligations.PanelFrameIsItsCommand : Prop :=
  ∀ (i : Instr) (f : CommandFrame) (panel : Panel) (s : State), i.wellFormed = true →
    commandFrame i = some f → f.source = panel.source → (s.port panel.source).receiver = .hunting →
    ∃ t, exec i s = .next t ∧ exec (.panelFrame panel (panelWire f.bytes)) s = .next t

/-- An owner's reply enters the reply place, the port is ANSWERED, an idle panel transmitter begins it, and nothing
else changes (R157, R162, R164). -/
def Obligations.AnswerFillsTheReplyPlace : Prop :=
  ∀ (src : Source) (c : Command) (a : Answer) (s : State), s.portsConsistent → (s.port src).replyPlace = none →
    ((s.answer src c a).port src).condition = .answered
      ∧ ((s.answer src c a).port src).replyPlace = some ⟨c.code, a⟩
      ∧ ((s.answer src c a).port src).refusalPlace = (s.port src).refusalPlace
      ∧ ((s.answer src c a).port src).first = some ((s.port src).first.getD .reply)
      ∧ (∀ x, (s.port src).transmitter = some x → ((s.answer src c a).port src).transmitter = some x)
      ∧ (src ≠ .player → (s.port src).transmitter = none →
          ((s.answer src c a).port src).transmitter
            = some ⟨.reply, panelWire (Reply.bytes ⟨c.code, a⟩)⟩)
      ∧ (src = .player → ((s.answer src c a).port src).transmitter = none)
      ∧ ((s.answer src c a).port src).receiver = (s.port src).receiver
      ∧ ((s.answer src c a).port src).rights = (s.port src).rights
      ∧ ((s.answer src c a).port src).events = (s.port src).events
      ∧ ((s.answer src c a).port src).mask = (s.port src).mask
      ∧ ((s.answer src c a).port src).sent = (s.port src).sent
      ∧ (∀ o, o ≠ src → (s.answer src c a).port o = s.port o)
      ∧ (s.answer src c a).ports.transaction = s.ports.transaction ∧ (s.answer src c a).ports.miso = s.ports.miso
      ∧ (s.answer src c a).withPorts s.ports = s

/-- The checks of a frame in their order: a busy port answers BUSY, an unlisted code UNKNOWN, a panel sending a Player command
NOT-HERE, and a wrong parameter length BAD-LENGTH, with the lengths of the availability table (R163; entry 1 is how the
commands of the table meet these checks). A Player write of fewer than two frame bytes, or with another select byte, is
discarded; one of the wrong size, and a panel length byte above 250, is refused BAD-LENGTH (R158, R160). A refusal enters a
free refusal place and is discarded otherwise, and nothing else changes. -/
def Obligations.BusyAndNotHere : Prop :=
  (∀ (i : Instr) (f : CommandFrame) (s : State), commandFrame i = some f → s.inReset = false →
    ((s.port f.source).condition ≠ .free → exec i s = .next (s.refuse f.source f.command.code .busy))
    ∧ ((s.port f.source).condition = .free → f.source ≠ .player → f.command.onPanels = false →
        exec i s = .next (s.refuse f.source f.command.code .notHere)))
  ∧ (∀ (s : State) (panel : Panel) (code len : Byte) (params : List Byte), s.inReset = false →
      (s.port panel.source).receiver = .hunting →
      (250 < len.toNat →
        exec (.panelFrame panel [0xA5#8, code, len]) s = .next (s.refuse panel.source code .badLength))
      ∧ (len.toNat = params.length → params.length ≤ 250 → (s.port panel.source).condition = .free →
          ((∀ r ∈ [(0x10, 0x1A), (0x20, 0x23), (0x30, 0x33), (0x40, 0x4A), (0x50, 0x54), (0x60, 0x62), (0x70, 0x72)],
              code.toNat < r.1 ∨ r.2 < code.toNat) →
            exec (.panelFrame panel (panelWire (code :: len :: params))) s
              = .next (s.refuse panel.source code .unknown))
          ∧ ∀ c : Command, code = c.code → c.onPanels = true → c.lengthOk params = false →
              exec (.panelFrame panel (panelWire (code :: len :: params))) s
                = .next (s.refuse panel.source code .badLength)))
  ∧ (∀ (s : State) (code len select : Byte) (params : List Byte) (stray : List Bool), s.inReset = false → s.ports.transaction = none →
      (select ≠ 0x3C#8 → select ≠ 0xC3#8 →
        exec (.playerWriteTransaction (select :: params) (some stray)) s
          = .next (s.shiftOut (List.replicate params.length 0xFF#8)))
      ∧ exec (.playerWriteTransaction [] (some stray)) s = .next (s.shiftOut [])
      ∧ exec (.playerWriteTransaction [0x3C#8] (some stray)) s = .next (s.shiftOut [])
      ∧ exec (.playerWriteTransaction [0x3C#8, code] (some stray)) s = .next (s.shiftOut [0xFF#8])
      ∧ ((250 < len.toNat ∨ params.length ≠ len.toNat) →
          exec (.playerWriteTransaction (0x3C#8 :: code :: len :: params) (some stray)) s
            = .next ((s.shiftOut (List.replicate (params.length + 2) 0xFF#8)).refuse .player code .badLength))
      ∧ (params.length = len.toNat → len.toNat ≤ 250 → s.ports.player.condition = .free →
          ((∀ r ∈ [(0x10, 0x1A), (0x20, 0x23), (0x30, 0x33), (0x40, 0x4A), (0x50, 0x54), (0x60, 0x62), (0x70, 0x72)],
              code.toNat < r.1 ∨ r.2 < code.toNat) →
            exec (.playerWriteTransaction (0x3C#8 :: code :: len :: params) (some stray)) s
              = .next ((s.shiftOut (List.replicate (params.length + 2) 0xFF#8)).refuse .player code .unknown))
          ∧ ∀ c : Command, code = c.code → c.lengthOk params = false →
              exec (.playerWriteTransaction (0x3C#8 :: code :: len :: params) (some stray)) s
                = .next ((s.shiftOut (List.replicate (params.length + 2) 0xFF#8)).refuse .player code .badLength)))
  ∧ (∀ params : List Byte,
      (∀ x ∈ [(Command.withdraw, 2), (.hold, 2), (.release, 2), (.raise, 2), (.lower, 2), (.singerDrop, 1),
          (.clearQueue, 0), (.uncue, 0), (.takeNext, 0), (.list, 2), (.query, 2), (.history, 2), (.loadOpen, 5),
          (.loadClose, 0), (.loadAbort, 0), (.start, 5), (.pause, 0), (.resume, 0), (.stop, 0), (.sync, 3), (.key, 1),
          (.keyStep, 1), (.tempo, 1), (.skipResult, 0), (.stageReset, 0), (.status, 0), (.glyphLoad, 132),
          (.lyricStatus, 0), (.zones, 4), (.videoStatus, 0), (.events, 0), (.mask, 2), (.profileSet, 3),
          (.profileGet, 1), (.profileSave, 0)],
        x.1.lengthOk params = true ↔ params.length = x.2)
      ∧ (Command.roster.lengthOk params = true ↔ params.length = 0 ∨ params.length = 1)
      ∧ (Command.rights.lengthOk params = true ↔ params.length = 1 ∨ params.length = 2)
      ∧ (Command.loadData.lengthOk params = true
          ↔ params.length % 16 = 0 ∧ 16 ≤ params.length ∧ params.length ≤ 240)
      ∧ (Command.add.lengthOk params = true ↔ params.length = 10 + 2 * ((params[3]?).getD 0#8).toNat)
      ∧ (Command.singerAdd.lengthOk params = true ↔ params.length = 1 + 2 * ((params[0]?).getD 0#8).toNat)
      ∧ (Command.idleText.lengthOk params = true ↔ params.length = 1 + 2 * ((params[0]?).getD 0#8).toNat))
  ∧ ∀ (s u : State) (src : Source) (code : Byte) (why : ReplyCode), u = s.refuse src code why →
      ((s.port src).refusalPlace.isSome = true → u = s)
      ∧ (s.portsConsistent → (s.port src).refusalPlace = none →
          (u.port src).refusalPlace = some ⟨code, ⟨why, {}, []⟩⟩
            ∧ (u.port src).replyPlace = (s.port src).replyPlace
            ∧ (u.port src).first = some ((s.port src).first.getD .refusal)
            ∧ (u.port src).condition = (s.port src).condition
            ∧ (∀ x, (s.port src).transmitter = some x → (u.port src).transmitter = some x)
            ∧ (src ≠ .player → (s.port src).transmitter = none →
                (u.port src).transmitter = some ⟨.refusal, panelWire (Reply.bytes ⟨code, ⟨why, {}, []⟩⟩)⟩)
            ∧ (src = .player → (u.port src).transmitter = none)
            ∧ (u.port src).receiver = (s.port src).receiver ∧ (u.port src).rights = (s.port src).rights
            ∧ (u.port src).events = (s.port src).events ∧ (u.port src).mask = (s.port src).mask
            ∧ (u.port src).sent = (s.port src).sent
            ∧ (∀ o, o ≠ src → u.port o = s.port o)
            ∧ u.ports.transaction = s.ports.transaction ∧ u.ports.miso = s.ports.miso ∧ u.withPorts s.ports = s)

/-! ### Queue operations in time (chapter 2) -/

/-- Each of the ten edits, taken at its port: BAD-VALUE where its arrival checks fail, taken at once by an idle QM, and
otherwise at the tail of the backlog (R12, R22, R29, R30). TAKE-NEXT is taken at once too, or waits with the edits of
the backlog ahead of it (R32). -/
def Obligations.EditsAndTakeNextArrive : Prop :=
  (∀ (i : Instr) (item : BacklogItem) (s : State), editOf i = some item →
    s.accepts item.source item.edit.command →
    (¬ item.edit.admitted →
      exec i s = .next ((s.route item.source item.edit.command).answer item.source item.edit.command
        ⟨.badValue, {}, []⟩))
    ∧ (item.edit.admitted → s.qm.inFlight = none →
        exec i s = .next ((s.route item.source item.edit.command).withQm
          { s.qm with inFlight := some ⟨.edit item, s.rightsOf item.source, s.ps.profile.promote⟩ }))
    ∧ (item.edit.admitted → s.qm.inFlight ≠ none →
        exec i s = .next ((s.route item.source item.edit.command).withQm
          { s.qm with backlog := s.qm.backlog ++ [item] })))
  ∧ (∀ (src : Source) (s : State), s.accepts src .takeNext →
    (s.qm.inFlight = none →
      exec (.takeNext src) s = .next ((s.route src .takeNext).withQm
        { s.qm with inFlight := some ⟨.takeNext, 0b1111#4, s.ps.profile.promote⟩ }))
    ∧ (s.qm.inFlight ≠ none →
        exec (.takeNext src) s = .next ((s.route src .takeNext).withQm
          { s.qm with takeNext := some s.qm.backlog.length })))

/-- The end of each of the ten edits: queue and slots change together, QUEUE-CHANGED is raised where the queue or the
roster changed, the reply goes to the edit's port and the arbiter takes the next operation (R10, R28, R29, R40). What a drop
does: every slot it picks becomes EMPTY and no other changes, CUE-LOST joins the Player's set for a removal alone, and a
LOAD-DATA in flight at a dropped slot is gone and answered CUE-LOST (R8, R36, R38, R39, R40, R62). -/
def Obligations.EditsEnd : Prop :=
  (∀ (i : Instr) (kind : Command) (item : BacklogItem) (rights : BitVec 4) (threshold : Nat) (s : State) (o : Outcome),
    endOf i = some kind → s.inReset = false →
    s.qm.inFlight = some ⟨.edit item, rights, threshold⟩ → item.edit.command = kind →
    s.qm.applyEdit ⟨.edit item, rights, threshold⟩ item.source item.edit = o →
    (o.qm.queue = s.qm.queue → o.qm.roster = s.qm.roster →
      exec i s = .next ((((s.withQm o.qm).applyDrop o.drop).answer item.source kind o.answer).arbitrate))
    ∧ (o.qm.queue ≠ s.qm.queue ∨ o.qm.roster ≠ s.qm.roster →
        exec i s
          = .next (((((s.withQm o.qm).applyDrop o.drop).queueChanged).answer item.source kind o.answer).arbitrate)))
  ∧ (∀ (s : State) (t : Nat),
      s.applyDrop .none = s ∧ s.applyDrop (.given t) = s.dropSlots (carriesTicket t)
        ∧ s.applyDrop (.lost t)
          = (s.dropSlots (carriesTicket t)).modifyPort .player
              (fun p => { p with events := p.events ||| Event.cueLost.bit }))
  ∧ (∀ (s : State) (test : Slot → Bool) (left : SongLoader),
      left =
        { slotA := if test s.sl.slotA = true then .empty else s.sl.slotA
          slotB := if test s.sl.slotB = true then .empty else s.sl.slotB
          inFlight := s.sl.inFlight } →
      ((∀ f, s.sl.inFlight = some f → test (s.sl.get f.slot) = false) → s.dropSlots test = s.withSl left)
      ∧ ∀ f, s.sl.inFlight = some f → test (s.sl.get f.slot) = true →
          s.dropSlots test
            = (s.withSl { left with inFlight := none }).answer .player .loadData ⟨.cueLost, {}, []⟩)
  ∧ ∀ (t : Nat) (c : Slot),
      (carriesTicket t c = true ↔
        (∃ l : Load, c = .loading l ∧ l.ticket = t) ∨ (∃ g : Song, (c = .loaded g ∨ c = .playing g) ∧ g.ticket = t)
          ∨ ∃ f : FailedLoad, c = .failed f ∧ f.ticket = t)
      ∧ (c.isPlaying = true ↔ ∃ g, c = .playing g)

/-- Which edits hit the candidate (R34), with the threshold as it stands when the arbiter chooses: the oldest notice goes
first, a waiting TAKE-NEXT next where no edit ahead of it hits, and otherwise the oldest edit; with nothing waiting the
QM becomes idle (R29, R33). -/
def Obligations.HitsDecideTheChoice : Prop :=
  ((∀ (threshold : Nat) (c : Option Entry) (e : Edit), e.hits threshold c = true ↔
      (∃ k : Entry, c = some k ∧
        (e = .withdraw k.ticket ∨ e = .hold k.ticket ∨ e = .raise k.ticket ∨ e = .lower k.ticket))
      ∨ (∃ t : Nat, e = .release t ∨ e = .raise t)
      ∨ ∃ p : AddParams, e = .add p ∧ (p.wantsPriority ≠ 0 ∨ threshold ≠ 0 ∨ c = none))
  ∧ ∀ (s : State) (ahead : Nat) (first : BacklogItem) (rest : List BacklogItem), s.qm.notices = [] →
      s.qm.takeNext = some ahead → s.qm.backlog = first :: rest →
      ((∃ item ∈ s.qm.backlog.take ahead,
          item.edit.hits s.ps.profile.promote (s.qm.queue.find? (fun e => e.state == .waiting)) = true) →
        s.arbitrate.qm
          = { s.qm with
              backlog := rest
              takeNext := some (ahead - 1)
              inFlight := some ⟨.edit first, s.rightsOf first.source, s.ps.profile.promote⟩ })
      ∧ ((∀ item ∈ s.qm.backlog.take ahead,
            item.edit.hits s.ps.profile.promote (s.qm.queue.find? (fun e => e.state == .waiting)) = false) →
          s.arbitrate.qm
            = { s.qm with
                takeNext := none
                inFlight := some ⟨.takeNext, 0b1111#4, s.ps.profile.promote⟩ }))
  ∧ (∀ s : State, s.arbitrate.withQm s.qm = s
    ∧ (∀ n rest, s.qm.notices = n :: rest →
        s.arbitrate.qm
          = { s.qm with notices := rest, inFlight := some ⟨.notice n, 0b1111#4, s.ps.profile.promote⟩ })
    ∧ (s.qm.notices = [] →
        (s.qm.takeNext = some 0 →
          s.arbitrate.qm
            = { s.qm with takeNext := none, inFlight := some ⟨.takeNext, 0b1111#4, s.ps.profile.promote⟩ })
        ∧ (s.qm.takeNext = none →
            (s.qm.backlog = [] → s.arbitrate.qm = { s.qm with inFlight := none })
            ∧ ∀ item rest, s.qm.backlog = item :: rest →
                s.arbitrate.qm
                  = { s.qm with
                      backlog := rest
                      inFlight := some ⟨.edit item, s.rightsOf item.source, s.ps.profile.promote⟩ })))

/-! ### What the edits do (chapter 1) -/

/-- The new ticket is the first number from the counter on, 1 after 999, that no entry and no record carries (R4). An ADD
whose song waits nowhere makes a new entry with it, or is refused FULL (R15, R16). -/
def Obligations.AddMakesAnEntry : Prop :=
  (∀ q : QueueManager, q.wellKept →
    ∃ k < 999, q.newTicket = (q.ticketCounter - 1 + k) % 999 + 1
      ∧ (∀ e ∈ q.queue, e.ticket ≠ q.newTicket) ∧ (∀ h ∈ q.history, h.ticket ≠ q.newTicket)
      ∧ ∀ j < k, (∃ e ∈ q.queue, e.ticket = (q.ticketCounter - 1 + j) % 999 + 1)
          ∨ ∃ h ∈ q.history, h.ticket = (q.ticketCounter - 1 + j) % 999 + 1)
  ∧ (∀ (q : QueueManager) (f : InFlight) (src : Source) (p : AddParams) (e : Entry) (queue : List Entry),
    (∀ k ∈ q.queue, k.song = p.song → k.state = .cued ∨ k.state = .playing) →
    (40 ≤ q.queue.length → q.applyEdit f src (.add p) = { qm := q, answer := ⟨.full, {}, []⟩ })
    ∧ (q.queue.length < 40 →
        e =
          { ticket := q.newTicket
            song := p.song
            title := p.title
            requesters := [⟨src, 1⟩]
            singer := p.singer.filter (fun n => (q.singerAt n).isSome)
            partner := if p.duet = 0 then none else p.partner.filter (fun n => (q.singerAt n).isSome)
            duet := p.duet != 0
            startKey := max (-6) (min 6 p.startKey)
            tempo := max 85 (min 115 p.tempo)
            cls := if p.wantsPriority ≠ 0 ∧ rightsHold f.rights .priority = true then .priority else .normal
            state := .waiting
            holder := none } →
        queue =
          (if e.cls = .priority then
            q.queue.takeWhile Entry.aheadOfNormal ++ e :: q.queue.dropWhile Entry.aheadOfNormal
          else q.queue ++ [e]) →
        q.applyEdit f src (.add p)
          = { qm :=
                { q with queue := queue, ticketCounter := if 999 ≤ q.newTicket then 1 else q.newTicket + 1 }
              answer :=
                ⟨.ok,
                  { demoted := p.wantsPriority != 0 && !rightsHold f.rights .priority
                    clamped :=
                      max (-6) (min 6 p.startKey) != p.startKey || max 85 (min 115 p.tempo) != p.tempo
                    noSinger :=
                      (p.singer.isSome && e.singer.isNone)
                        || (p.duet != 0 && p.partner.isSome && e.partner.isNone) },
                  be2 e.ticket ++ be1 (positionOf queue e.ticket)⟩ }))

/-- An ADD whose song waits already is gathered into that entry: the votes, the title, the singer, and the two ways
its class can rise (R13, R14). -/
def Obligations.AddIsGathered : Prop :=
  ∀ (q : QueueManager) (f : InFlight) (src : Source) (p : AddParams) (e voted : Entry) (raised promoted : Bool)
    (queue : List Entry),
    q.queue.find? (fun k => (k.state == .waiting || k.state == .held) && k.song == p.song) = some e →
    voted =
      { e with
        requesters :=
          if ∃ r ∈ e.requesters, r.source = src then
            e.requesters.map (fun r => if r.source = src then ⟨src, min 15 (r.votes + 1)⟩ else r)
          else e.requesters ++ [⟨src, 1⟩]
        title := if e.title = [] then p.title else e.title
        singer :=
          if e.singer = none then p.singer.filter (fun n => (q.singerAt n).isSome) else e.singer } →
    raised = (p.wantsPriority != 0 && rightsHold f.rights .priority && e.cls == .normal) →
    promoted =
      (f.threshold != 0 && e.cls == .normal && !raised && e.voteTotal < f.threshold
        && f.threshold ≤ voted.voteTotal) →
    queue =
      (if raised = true ∨ promoted = true then
        (q.queue.filter (fun k => k.ticket != e.ticket)).takeWhile Entry.aheadOfNormal
          ++ { voted with cls := .priority }
            :: (q.queue.filter (fun k => k.ticket != e.ticket)).dropWhile Entry.aheadOfNormal
      else q.queue.map (fun k => if k.ticket = e.ticket then voted else k)) →
    q.applyEdit f src (.add p)
      = { qm := { q with queue := queue }
          answer :=
            ⟨.ok,
              { gathered := true
                promoted := promoted
                demoted := p.wantsPriority != 0 && !rightsHold f.rights .priority
                clamped := e.requesters.any (fun r => r.source == src && 15 ≤ r.votes)
                noSinger := e.singer.isNone && p.singer.isSome && voted.singer.isNone },
              be2 e.ticket ++ be1 (positionOf queue e.ticket)⟩ }

/-- WITHDRAW: its refusals in their order, the removal of an entry with its CUED slot, and the loss of one pair
(R8, R11, R17). -/
def Obligations.WithdrawOutcome : Prop :=
  ∀ (q : QueueManager) (f : InFlight) (src : Source) (ticket : Nat),
    ((∀ e ∈ q.queue, e.ticket ≠ ticket) →
      q.applyEdit f src (.withdraw ticket) = { qm := q, answer := ⟨.noTicket, {}, []⟩ })
    ∧ ∀ e, q.queue.find? (fun k => k.ticket == ticket) = some e →
        (e.state = .playing →
          q.applyEdit f src (.withdraw ticket) = { qm := q, answer := ⟨.inPlay, {}, []⟩ })
        ∧ (e.state ≠ .playing → (∀ r ∈ e.requesters, r.source ≠ src) → src ≠ .player →
            rightsHold f.rights .cancelAny = false →
            q.applyEdit f src (.withdraw ticket) = { qm := q, answer := ⟨.notYours, {}, []⟩ })
        ∧ (e.state ≠ .playing →
            (((∃ r ∈ e.requesters, r.source = src) ∧ ∀ r ∈ e.requesters, r.source = src)
              ∨ ((∀ r ∈ e.requesters, r.source ≠ src) ∧ (src = .player ∨ rightsHold f.rights .cancelAny = true))) →
            q.applyEdit f src (.withdraw ticket)
              = { qm := { q with queue := q.queue.filter (fun k => k.ticket != ticket) }
                  answer := ⟨.ok, {}, be2 ticket ++ be1 0⟩
                  drop := if e.state = .cued then .lost ticket else .none })
        ∧ (e.state ≠ .playing → (∃ r ∈ e.requesters, r.source = src) → (∃ r ∈ e.requesters, r.source ≠ src) →
            q.applyEdit f src (.withdraw ticket)
              = { qm :=
                    { q with
                      queue :=
                        q.queue.map (fun k =>
                          if k.ticket = ticket then
                            { e with requesters := e.requesters.filter (fun r => r.source != src) }
                          else k) }
                  answer :=
                    ⟨.ok, {}, be2 ticket
                      ++ be1 (((e.requesters.filter (fun r => r.source != src)).map (fun r => r.votes)).sum)⟩ })

/-- HOLD and RELEASE: their refusals in their order; HOLD makes the entry HELD by the source in its place, RELEASE makes
it WAITING in its place with no holder, and the holder needs no pair (R11, R18, R19). -/
def Obligations.HoldAndReleaseOutcome : Prop :=
  (∀ (q : QueueManager) (f : InFlight) (src : Source) (ticket : Nat),
    ((∀ e ∈ q.queue, e.ticket ≠ ticket) →
      q.applyEdit f src (.hold ticket) = { qm := q, answer := ⟨.noTicket, {}, []⟩ })
    ∧ ∀ e, q.queue.find? (fun k => k.ticket == ticket) = some e →
        (e.state ≠ .waiting → q.applyEdit f src (.hold ticket) = { qm := q, answer := ⟨.wrongState, {}, []⟩ })
        ∧ (e.state = .waiting → src ≠ .player → (∀ r ∈ e.requesters, r.source ≠ src) →
            q.applyEdit f src (.hold ticket) = { qm := q, answer := ⟨.notYours, {}, []⟩ })
        ∧ (e.state = .waiting → (src = .player ∨ ∃ r ∈ e.requesters, r.source = src) →
            q.applyEdit f src (.hold ticket)
              = { qm :=
                    { q with
                      queue :=
                        q.queue.map (fun k =>
                          if k.ticket = ticket then { e with state := .held, holder := some src } else k) }
                  answer := ⟨.ok, {}, be2 ticket ++ be1 (positionOf q.queue ticket)⟩ }))
  ∧ (∀ (q : QueueManager) (f : InFlight) (src : Source) (ticket : Nat),
    ((∀ e ∈ q.queue, e.ticket ≠ ticket) →
      q.applyEdit f src (.release ticket) = { qm := q, answer := ⟨.noTicket, {}, []⟩ })
    ∧ ∀ e, q.queue.find? (fun k => k.ticket == ticket) = some e →
        (e.state ≠ .held → q.applyEdit f src (.release ticket) = { qm := q, answer := ⟨.wrongState, {}, []⟩ })
        ∧ (e.state = .held → src ≠ .player → e.holder ≠ some src →
            q.applyEdit f src (.release ticket) = { qm := q, answer := ⟨.notYours, {}, []⟩ })
        ∧ (e.state = .held → (src = .player ∨ e.holder = some src) →
            q.applyEdit f src (.release ticket)
              = { qm :=
                    { q with
                      queue :=
                        q.queue.map (fun k =>
                          if k.ticket = ticket then { e with state := .waiting, holder := none } else k) }
                  answer := ⟨.ok, {}, be2 ticket ++ be1 (positionOf q.queue ticket)⟩ }))

/-- RAISE and LOWER: NO-RIGHT before the ticket is looked at, the states they accept, and the places they move an
entry to (R11, R20). -/
def Obligations.RaiseAndLowerOutcome : Prop :=
  ∀ (q : QueueManager) (f : InFlight) (src : Source) (ticket : Nat),
    (src ≠ .player → rightsHold f.rights .raise = false →
      q.applyEdit f src (.raise ticket) = { qm := q, answer := ⟨.noRight, {}, []⟩ }
        ∧ q.applyEdit f src (.lower ticket) = { qm := q, answer := ⟨.noRight, {}, []⟩ })
    ∧ ((src = .player ∨ rightsHold f.rights .raise = true) →
        ((∀ e ∈ q.queue, e.ticket ≠ ticket) →
          q.applyEdit f src (.raise ticket) = { qm := q, answer := ⟨.noTicket, {}, []⟩ }
            ∧ q.applyEdit f src (.lower ticket) = { qm := q, answer := ⟨.noTicket, {}, []⟩ })
        ∧ ∀ (e : Entry) (rest : List Entry), q.queue.find? (fun k => k.ticket == ticket) = some e →
            rest = q.queue.filter (fun k => k.ticket != ticket) →
            ((e.state = .cued ∨ e.state = .playing) →
              q.applyEdit f src (.raise ticket) = { qm := q, answer := ⟨.wrongState, {}, []⟩ }
                ∧ q.applyEdit f src (.lower ticket) = { qm := q, answer := ⟨.wrongState, {}, []⟩ })
            ∧ ((e.state = .waiting ∨ e.state = .held) →
                q.applyEdit f src (.raise ticket)
                    = { qm :=
                          { q with
                            queue :=
                              rest.takeWhile Entry.onStage ++ { e with cls := .priority }
                                :: rest.dropWhile Entry.onStage }
                        answer :=
                          ⟨.ok, {}, be2 ticket ++ be1 (rest.takeWhile Entry.onStage).length⟩ }
                  ∧ q.applyEdit f src (.lower ticket)
                    = { qm := { q with queue := rest ++ [{ e with cls := .normal }] }
                        answer := ⟨.ok, {}, be2 ticket ++ be1 rest.length⟩ }))

/-- CLEAR-QUEUE applied removes every WAITING and HELD entry and no other; with none the reply is 0 and nothing is
raised; a panel is refused NOT-HERE (R21). -/
def Obligations.ClearQueueEnds : Prop :=
  (∀ (s : State) (src : Source) (rights : BitVec 4) (threshold : Nat) (queue : List Entry), s.inReset = false →
    s.qm.inFlight = some ⟨.edit ⟨src, .clearQueue⟩, rights, threshold⟩ →
    queue = s.qm.queue.filter (fun e => e.state == .cued || e.state == .playing) →
    (queue.length < s.qm.queue.length →
      exec .clearQueueApplied s
        = .next (((((s.withQm { s.qm with queue := queue }).raiseAll .queueChanged).markTicker).answer src .clearQueue
            ⟨.ok, {}, be1 (s.qm.queue.length - queue.length)⟩).arbitrate))
    ∧ (queue.length = s.qm.queue.length →
        exec .clearQueueApplied s = .next ((s.answer src .clearQueue ⟨.ok, {}, be1 0⟩).arbitrate)))
  ∧ ∀ (s : State) (src : Source), s.inReset = false → (s.port src).condition = .free → src ≠ .player →
      exec (.clearQueue src) s = .next (s.refuse src Command.clearQueue.code .notHere)

/-- SINGER-ADD gives a known name's number, the lowest free place, or FULL; SINGER-DROP frees its place and clears
its number from every entry (R22, R23). -/
def Obligations.SingerEditsOutcome : Prop :=
  ∀ (q : QueueManager) (f : InFlight) (src : Source),
    (∀ (name : List Nat) (n : Nat), 1 ≤ n → n ≤ 16 →
      ((∃ g, q.singerAt n = some g ∧ g.name = name) →
        (∀ m, m < n → ∀ g, q.singerAt m = some g → g.name ≠ name) →
        q.applyEdit f src (.singerAdd name) = { qm := q, answer := ⟨.ok, { gathered := true }, be1 n⟩ })
      ∧ ((∀ m g, q.singerAt m = some g → g.name ≠ name) → q.singerAt n = none →
          (∀ m, 1 ≤ m → m < n → q.singerAt m ≠ none) →
          q.applyEdit f src (.singerAdd name)
            = { qm := { q with roster := q.roster.setIfInBounds (n - 1) (some ⟨name, src⟩) }
                answer := ⟨.ok, {}, be1 n⟩ }))
    ∧ (∀ name : List Nat, (∀ m, 1 ≤ m → m ≤ 16 → ∃ g, q.singerAt m = some g ∧ g.name ≠ name) →
        q.applyEdit f src (.singerAdd name) = { qm := q, answer := ⟨.full, {}, []⟩ })
    ∧ (∀ n : Nat, q.singerAt n = none →
        q.applyEdit f src (.singerDrop n) = { qm := q, answer := ⟨.badValue, {}, []⟩ })
    ∧ ∀ (n : Nat) (g : Singer), q.singerAt n = some g →
        (src ≠ .player → g.owner ≠ src →
          q.applyEdit f src (.singerDrop n) = { qm := q, answer := ⟨.notYours, {}, []⟩ })
        ∧ ((src = .player ∨ g.owner = src) →
            q.applyEdit f src (.singerDrop n)
              = { qm :=
                    { q with
                      roster := q.roster.setIfInBounds (n - 1) none
                      queue :=
                        q.queue.map (fun e =>
                          { e with
                            singer := if e.singer = some n then none else e.singer
                            partner := if e.partner = some n then none else e.partner }) }
                  answer :=
                    ⟨.ok, {}, be1 (q.queue.countP (fun e => e.singer == some n || e.partner == some n))⟩ })

/-- UNCUE: WRONG-STATE with no CUED entry; otherwise the entry returns to the head of its class section, absorbing a
waiting repeat of its song, and its slots are dropped (R9, R36). -/
def Obligations.UncueReturnsTheEntry : Prop :=
  ∀ (q : QueueManager) (f : InFlight) (src : Source),
    ((∀ e ∈ q.queue, e.state ≠ .cued) →
      q.applyEdit f src .uncue = { qm := q, answer := ⟨.wrongState, {}, []⟩ })
    ∧ ∀ (c back : Entry) (rest left queue : List Entry), q.queue.find? (fun e => e.state == .cued) = some c →
        rest = q.queue.filter (fun k => k.ticket != c.ticket) →
        (((∀ k ∈ rest, k.song = c.song → k.state = .cued ∨ k.state = .playing) ∧ back = { c with state := .waiting }
            ∧ left = rest)
          ∨ ∃ a, rest.find? (fun k => (k.state == .waiting || k.state == .held) && k.song == c.song) = some a
              ∧ left = rest.filter (fun k => k.ticket != a.ticket)
              ∧ back =
                  { c with
                    requesters := a.requesters.foldl absorbPair c.requesters
                    title := if c.title = [] then a.title else c.title
                    singer := if c.singer = none then a.singer else c.singer
                    partner := if c.duet = true ∧ c.partner = none then a.partner else c.partner
                    cls := if c.cls = .priority ∨ a.cls = .priority then .priority else .normal
                    state := a.state
                    holder := a.holder }) →
        queue =
          (if back.cls = .priority then left.takeWhile Entry.onStage ++ back :: left.dropWhile Entry.onStage
          else left.takeWhile Entry.aheadOfNormal ++ back :: left.dropWhile Entry.aheadOfNormal) →
        q.applyEdit f src .uncue
          = { qm := { q with queue := queue }
              answer := ⟨.ok, {}, be2 c.ticket ++ be1 (positionOf queue c.ticket)⟩
              drop := .given c.ticket }

/-- TAKE-NEXT applied: WRONG-STATE beside a CUED entry, EMPTY with nothing WAITING, and otherwise the candidate CUED
directly after the PLAYING entry (R35). -/
def Obligations.TakeNextEnds : Prop :=
  ∀ (s : State) (rights : BitVec 4) (threshold : Nat), s.inReset = false →
    s.qm.inFlight = some ⟨.takeNext, rights, threshold⟩ →
    ((∃ e ∈ s.qm.queue, e.state = .cued) →
      exec .takeNextApplied s = .next ((s.answer .player .takeNext ⟨.wrongState, {}, []⟩).arbitrate))
    ∧ ((∀ e ∈ s.qm.queue, e.state ≠ .cued ∧ e.state ≠ .waiting) →
        exec .takeNextApplied s = .next ((s.answer .player .takeNext ⟨.empty, {}, []⟩).arbitrate))
    ∧ ∀ (e : Entry) (rest queue : List Entry), (∀ k ∈ s.qm.queue, k.state ≠ .cued) →
        s.qm.queue.find? (fun k => k.state == .waiting) = some e →
        rest = s.qm.queue.filter (fun k => k.ticket != e.ticket) →
        queue =
          rest.takeWhile (fun k => k.state == .playing) ++ { e with state := .cued }
            :: rest.dropWhile (fun k => k.state == .playing) →
        exec .takeNextApplied s
          = .next (((((s.withQm { s.qm with queue := queue }).raiseAll .queueChanged).markTicker).answer .player
              .takeNext
              ⟨.ok, {}, entryPayload (rest.takeWhile (fun k => k.state == .playing)).length
                { e with state := .cued }⟩).arbitrate)

/-- A START notice applied: the CUED entry becomes PLAYING with its LOADED slot, or the SC is sent CUE-LOST. A RETIRE
notice files the PLAYING entry with the notice's results and frees the PLAYING slot; a RESET notice files it ABORTED,
returns the CUED entry and frees both slots (R37 to R39). -/
def Obligations.NoticesEnd : Prop :=
  (∀ (s : State) (ticket : Nat) (rights : BitVec 4) (threshold : Nat), s.inReset = false →
    s.qm.inFlight = some ⟨.notice (.start ticket), rights, threshold⟩ →
    (∀ e, s.qm.queue.find? (fun k => k.state == .cued) = some e → e.ticket = ticket →
      exec .startNoticeApplied s
        = .next (((((s.withQm
            { s.qm with
              queue := s.qm.queue.map (fun k => if k.ticket = ticket then { e with state := .playing } else k)
              toStage := s.qm.toStage ++ [.start e.startKey e.tempo e.duet] }).withSl
            { s.sl with slotA := s.sl.slotA.begin ticket, slotB := s.sl.slotB.begin ticket }).raiseAll
            .queueChanged).markTicker).arbitrate))
    ∧ ((∀ e ∈ s.qm.queue, e.ticket ≠ ticket) →
        exec .startNoticeApplied s
          = .next ((s.withQm { s.qm with toStage := s.qm.toStage ++ [.cueLost] }).arbitrate)))
  ∧ (∀ (s : State) (rights : BitVec 4) (threshold : Nat), s.inReset = false →
    (∀ (kind : EndKind) (time : Nat) (lanes : PerLane Finals) (e : Entry),
      s.qm.inFlight = some ⟨.notice (.retire kind time lanes), rights, threshold⟩ →
      s.qm.queue.find? (fun k => k.state == .playing) = some e →
      exec .retireNoticeApplied s
        = .next (((((s.withQm
            { s.qm with
              queue := s.qm.queue.filter (fun k => k.ticket != e.ticket)
              history :=
                (if 16 ≤ s.qm.history.length then s.qm.history.tail else s.qm.history)
                  ++ [⟨e.ticket, e.song, e.title, s.qm.nameAt e.singer, s.qm.nameAt e.partner, e.duet, kind, time,
                      lanes⟩]
              toStage := s.qm.toStage ++ [.retire] }).dropSlots Slot.isPlaying).raiseAll
            .queueChanged).markTicker).arbitrate))
    ∧ ∀ (time : Nat) (left queue : List Entry) (history : List HistoryRecord),
        s.qm.inFlight = some ⟨.notice (.reset time), rights, threshold⟩ →
        (((∀ k ∈ s.qm.queue, k.state ≠ .playing) ∧ left = s.qm.queue ∧ history = s.qm.history)
          ∨ ∃ e, s.qm.queue.find? (fun k => k.state == .playing) = some e
              ∧ left = s.qm.queue.filter (fun k => k.ticket != e.ticket)
              ∧ history =
                  (if 16 ≤ s.qm.history.length then s.qm.history.tail else s.qm.history)
                    ++ [⟨e.ticket, e.song, e.title, s.qm.nameAt e.singer, s.qm.nameAt e.partner, e.duet, .aborted,
                        time, ⟨⟨none, 0, ⟨0, 0, 0, 0⟩, 0⟩, ⟨none, 0, ⟨0, 0, 0, 0⟩, 0⟩⟩⟩]) →
        (((∀ k ∈ left, k.state ≠ .cued) ∧ queue = left)
          ∨ ∃ c, left.find? (fun k => k.state == .cued) = some c ∧ queue = returnCued left c) →
        ((∀ k ∈ s.qm.queue, k.state ≠ .playing ∧ k.state ≠ .cued) →
          exec .resetNoticeApplied s
            = .next (((s.withQm { s.qm with toStage := s.qm.toStage ++ [.reset] }).dropSlots
                (fun _ => true)).arbitrate))
        ∧ ((∃ k ∈ s.qm.queue, k.state = .playing ∨ k.state = .cued) →
            exec .resetNoticeApplied s
              = .next (((((s.withQm
                  { s.qm with queue := queue, history := history, toStage := s.qm.toStage ++ [.reset] }).dropSlots
                  (fun _ => true)).raiseAll .queueChanged).markTicker).arbitrate)))

/-- The reads of the QM are answered at once from the applied queue, OK or refused by their values, and change nothing
but their port (R24 to R26; the lane order in a HISTORY record is the model's choice, entry 20). The bytes of LIST's summaries
and of the entry that QUERY and TAKE-NEXT return are R171's and R169's. HISTORY carries the history length and the leading records
that fit from the start on, newest first, every field of R6; ROSTER the number of singers and the leading records that fit in
number order, free places skipped. -/
def Obligations.QueueReadsAnswer : Prop :=
  (∀ (src : Source) (s : State),
    (s.accepts src .list → ∀ position count : Nat,
      ((position ≤ 39 ∧ 1 ≤ count ∧ count ≤ 8) →
        exec (.list src position count) s
            = .next ((s.route src .list).answer src .list ⟨.ok, {}, s.qm.listPayload position count⟩)
          ∧ (s.qm.listPayload position count).length = 2 + 12 * min count (s.qm.queue.length - position))
      ∧ ((39 < position ∨ count = 0 ∨ 8 < count) →
          exec (.list src position count) s = .next ((s.route src .list).answer src .list ⟨.badValue, {}, []⟩)))
    ∧ (s.accepts src .query → ∀ ticket : Nat,
        ((∀ e ∈ s.qm.queue, e.ticket ≠ ticket) →
          exec (.query src ticket) s = .next ((s.route src .query).answer src .query ⟨.noTicket, {}, []⟩))
        ∧ ∀ e, s.qm.queue.find? (fun k => k.ticket == ticket) = some e →
            exec (.query src ticket) s
              = .next ((s.route src .query).answer src .query
                  ⟨.ok, {}, entryPayload (positionOf s.qm.queue ticket) e⟩))
    ∧ (s.accepts src .history → ∀ start count : Nat,
        ((start ≤ 15 ∧ 1 ≤ count ∧ count ≤ 8) →
          exec (.history src start count) s
              = .next ((s.route src .history).answer src .history ⟨.ok, {}, s.qm.historyPayload start count⟩)
            ∧ (s.qm.historyPayload start count).length ≤ 250)
        ∧ ((15 < start ∨ count = 0 ∨ 8 < count) →
            exec (.history src start count) s
              = .next ((s.route src .history).answer src .history ⟨.badValue, {}, []⟩)))
    ∧ (s.accepts src .roster → ∀ first : Option Nat,
        ((1 ≤ first.getD 1 ∧ first.getD 1 ≤ 16) →
          exec (.roster src first) s
              = .next ((s.route src .roster).answer src .roster ⟨.ok, {}, s.qm.rosterPayload (first.getD 1)⟩)
            ∧ (s.qm.rosterPayload (first.getD 1)).length ≤ 250)
        ∧ ((first.getD 1 = 0 ∨ 16 < first.getD 1) →
            exec (.roster src first) s
              = .next ((s.route src .roster).answer src .roster ⟨.badValue, {}, []⟩))))
  ∧ (∀ n : Nat, be1 n = [BitVec.ofNat 8 n] ∧ be2 n = [BitVec.ofNat 8 (n / 256), BitVec.ofNat 8 n]
      ∧ be3 n = [BitVec.ofNat 8 (n / 65536), BitVec.ofNat 8 (n / 256), BitVec.ofNat 8 n])
  ∧ (∀ (position : Nat) (e : Entry) (cls state : Nat),
      cls = (match e.cls with | .priority => 0 | .normal => 1) →
      state = (match e.state with | .waiting => 0 | .held => 1 | .cued => 2 | .playing => 3) →
      entryPayload position e
          = be1 position ++ be2 e.ticket ++ be3 e.song ++ be1 e.title.length ++ e.title.flatMap be2
            ++ be1 e.requesters.length
            ++ e.requesters.flatMap (fun r => be1 (sourceNumber r.source) ++ be1 r.votes)
            ++ be1 ((e.requesters.map (fun r => r.votes)).sum) ++ be1 (e.singer.getD 0) ++ be1 (e.partner.getD 0)
            ++ be1 (if e.duet = true then 1 else 0) ++ [BitVec.ofInt 8 e.startKey] ++ be1 e.tempo ++ be1 cls
            ++ be1 state ++ be1 ((e.holder.map sourceNumber).getD 255)
        ∧ summaryPayload position e
          = be1 position ++ be2 e.ticket ++ be1 state ++ be1 cls ++ be3 e.song
            ++ be1 ((e.requesters.map (fun r => r.votes)).sum) ++ be1 (e.singer.getD 0) ++ be1 (e.partner.getD 0)
            ++ be1 (if e.duet = true then 1 else 0))
  ∧ (∀ (q : QueueManager) (position count : Nat) (shown : List Entry),
      shown = (q.queue.drop position).take count →
      q.listPayload position count
        = be1 q.queue.length ++ be1 shown.length
          ++ (shown.zipIdx position).flatMap (fun x => summaryPayload x.2 x.1))
  ∧ (∀ (q : QueueManager) (start count : Nat) (lane : Finals → List Byte) (record : HistoryRecord → List Byte)
      (records : List (List Byte)),
      (∀ f, lane f
        = be2 (f.score.getD 0xFFFF) ++ be2 f.graded ++ be2 f.counts.perfect ++ be2 f.counts.good ++ be2 f.counts.fair
          ++ be2 f.counts.miss ++ be2 f.maxStreak) →
      (∀ h, record h
        = be2 h.ticket ++ be3 h.song ++ be1 h.title.length ++ h.title.flatMap be2
          ++ be1 (h.singerName.getD []).length ++ (h.singerName.getD []).flatMap be2
          ++ be1 (h.partnerName.getD []).length ++ (h.partnerName.getD []).flatMap be2
          ++ be1 (if h.duet = true then 1 else 0)
          ++ be1 (match h.endKind with | .completed => 0 | .stopped => 1 | .aborted => 2) ++ be3 h.timeReached
          ++ lane h.lanes.lane0 ++ lane h.lanes.lane1) →
      records = ((q.history.reverse.drop start).take count).map record →
      ∃ k ≤ records.length, q.historyPayload start count
          = be1 q.history.length ++ be1 k ++ (records.take k).flatten
        ∧ (records.take k).flatten.length ≤ 248
        ∧ (k < records.length → 248 < (records.take (k + 1)).flatten.length))
  ∧ ∀ (q : QueueManager) (first : Nat) (records : List (List Byte)), 1 ≤ first →
      records =
        (List.range' first (17 - first)).filterMap (fun n =>
          (q.singerAt n).map (fun g =>
            be1 n ++ be1 g.name.length ++ g.name.flatMap be2 ++ be1 (sourceNumber g.owner))) →
      ∃ k ≤ records.length, q.rosterPayload first
          = be1 ((List.range' 1 16).countP (fun n => (q.singerAt n).isSome)) ++ be1 k ++ (records.take k).flatten
        ∧ (records.take k).flatten.length ≤ 248
        ∧ (k < records.length → 248 < (records.take (k + 1)).flatten.length)

/-! ### The cue slots (chapter 3) -/

/-- LOAD-OPEN: BAD-VALUE, NO-TICKET, or the target slot LOADING afresh for the CUED ticket (R52). -/
def Obligations.LoadOpens : Prop :=
  ∀ (src : Source) (ticket count order : Nat) (s : State), s.accepts src .loadOpen →
    ((6144 < count ∨ 1 < order) →
      exec (.loadOpen src ticket count order) s
        = .next ((s.route src .loadOpen).answer src .loadOpen ⟨.badValue, {}, []⟩))
    ∧ (count ≤ 6144 → order ≤ 1 →
        ((∀ e, s.qm.queue.find? (fun k => k.state == .cued) = some e → e.ticket ≠ ticket) →
          exec (.loadOpen src ticket count order) s
            = .next ((s.route src .loadOpen).answer src .loadOpen ⟨.noTicket, {}, []⟩))
        ∧ ∀ (e : Entry) (n : SlotName), s.qm.queue.find? (fun k => k.state == .cued) = some e → e.ticket = ticket →
            n =
              (if s.sl.slotA.isPlaying then .b
              else if s.sl.slotB.isPlaying then .a
              else if s.sl.slotA.ticket = some ticket then .a
              else if s.sl.slotB.ticket = some ticket then .b
              else .a) →
            exec (.loadOpen src ticket count order) s
              = .next (((s.route src .loadOpen).withSl
                  (s.sl.set n
                    (.loading
                      { ticket := ticket
                        records := []
                        remaining := if count = 0 then none else some count
                        order := if order = 0 then .little else .big
                        tracking := ⟨0, 0, 0, 0, none, none, 0, 0, 0, false⟩
                        clamps := 0
                        index := ⟨⟨0, none⟩, ⟨0, none⟩, ⟨0, none⟩, none, []⟩ }))).answer src .loadOpen
                  ⟨.ok, {}, encSlotName n ++ be2 ticket⟩))

/-- LOAD-DATA of whole records: NO-LOAD with no slot LOADING, and otherwise it begins to be applied, leaving every
slot as it was; at its end the records of the frame take effect together with the reply (R53, R55, R57, R64). The records are
16 bytes each and are applied in order up to the first that fails or the one that brings the count to 0: the load is then
LOADED where END was last and FAILED with NO-END otherwise, OVERRUN telling of records left over (R53, R55); the payload is
R57's, byte for byte (R169). -/
def Obligations.LoadDataBeginsAndEnds : Prop :=
  (∀ (src : Source) (bytes : List Byte) (s : State), s.accepts src .loadData → bytes.length % 16 = 0 →
    16 ≤ bytes.length → bytes.length ≤ 240 →
    ((∀ l, s.sl.slotA ≠ .loading l ∧ s.sl.slotB ≠ .loading l) →
      exec (.loadData src bytes) s = .next ((s.route src .loadData).answer src .loadData ⟨.noLoad, {}, []⟩))
    ∧ ∀ n l, s.sl.loadingSlot = some (n, l) →
        exec (.loadData src bytes) s
          = .next ((s.route src .loadData).withSl { s.sl with inFlight := some ⟨n, bytes⟩ }))
  ∧ (∀ (s : State) (n : SlotName) (bytes : List Byte) (l : Load) (r : FrameResult), s.inReset = false →
      s.sl.inFlight = some ⟨n, bytes⟩ → s.sl.get n = .loading l → l.applyFrame 0 (recordsOf bytes) = r →
      (r.ending = .going →
        exec .loadDataEnd s
          = .next ((s.withSl { s.sl.set n (.loading r.load) with inFlight := none }).answer .player .loadData
              ⟨.ok, {}, loadDataPayload n r⟩))
      ∧ (r.ending = .complete →
          exec .loadDataEnd s
            = .next (((s.withSl
                { s.sl.set n (.loaded ⟨r.load.ticket, r.load.records, r.load.index, r.load.clamps⟩) with
                  inFlight := none }).raisePlayer .loadDone).answer .player .loadData
                ⟨if r.overrun then .overrun else .ok, {}, loadDataPayload n r⟩))
      ∧ ∀ why, r.ending = .failed why →
          exec .loadDataEnd s
            = .next (((s.withSl
                { s.sl.set n (.failed ⟨r.load.ticket, r.load.records, r.load.clamps, why⟩) with
                  inFlight := none }).raisePlayer .loadDone).answer .player .loadData
                ⟨if r.overrun then .overrun else .ok, {}, loadDataPayload n r⟩))
  ∧ (∀ bytes : List Byte, bytes.length % 16 = 0 →
      (recordsOf bytes).flatten = bytes ∧ ∀ raw ∈ recordsOf bytes, raw.length = 16)
  ∧ (∀ (l m : Load) (k : Nat) (raw : List Byte) (rest : List (List Byte)),
      l.applyFrame k [] = ⟨l, k, .going, false⟩
      ∧ (∀ why, l.applyRecord raw = (m, some why) → l.applyFrame k (raw :: rest) = ⟨m, k, .failed why, false⟩)
      ∧ (l.applyRecord raw = (m, none) →
          (m.remaining ≠ some 0 → l.applyFrame k (raw :: rest) = m.applyFrame (k + 1) rest)
          ∧ (m.remaining = some 0 →
              (∀ t, m.records.getLast? = some (.mark .finish t) →
                l.applyFrame k (raw :: rest) = ⟨m, k + 1, .complete, !rest.isEmpty⟩)
              ∧ ((∀ t, m.records.getLast? ≠ some (.mark .finish t)) →
                  l.applyFrame k (raw :: rest) = ⟨m, k + 1, .failed .noEnd, !rest.isEmpty⟩))))
  ∧ ∀ (n : SlotName) (r : FrameResult),
      loadDataPayload n r
        = be1 (match n with | .a => 0 | .b => 1) ++ be1 r.accepted
          ++ be1 (match r.ending with | .going => 1 | .complete => 2 | .failed _ => 3)
          ++ be1 (match r.ending with
            | .going => 255
            | .complete => 255
            | .failed why =>
              match why with
              | .sylCount => 0 | .lineOrder => 1 | .timeRange => 2 | .sylOrphan => 3 | .sylRange => 4
              | .noteOrder => 5 | .endEarly => 6 | .noEnd => 7 | .short => 8 | .tooLong => 9 | .extra => 10
              | .badRecord => 11)
          ++ be2 r.load.records.length ++ be2 (r.load.remaining.getD 0xFFFF) ++ be2 r.load.clamps

/-- LOAD-CLOSE ends a load LOADED where END is last, and FAILED with NO-END or SHORT otherwise; LOAD-ABORT empties the
slot of the CUED ticket that is not PLAYING and raises nothing (R58, R59, R64). -/
def Obligations.LoadClosesAndAborts : Prop :=
  ∀ (src : Source) (s : State),
    (s.accepts src .loadClose →
      ((∀ l, s.sl.slotA ≠ .loading l ∧ s.sl.slotB ≠ .loading l) →
        exec (.loadClose src) s = .next ((s.route src .loadClose).answer src .loadClose ⟨.noLoad, {}, []⟩))
      ∧ ∀ n l, s.sl.loadingSlot = some (n, l) →
          (l.tracking.ended = true →
            exec (.loadClose src) s
              = .next ((((s.route src .loadClose).withSl
                  (s.sl.set n (.loaded ⟨l.ticket, l.records, l.index, l.clamps⟩))).raisePlayer .loadDone).answer src
                  .loadClose
                  ⟨.ok, {}, encSlotName n ++ [2#8] ++ [0xFF#8] ++ be2 l.records.length ++ be2 l.clamps⟩))
          ∧ ∀ why : FailReason, why = (if l.remaining = none then .noEnd else .short) → l.tracking.ended = false →
              exec (.loadClose src) s
                = .next ((((s.route src .loadClose).withSl
                    (s.sl.set n (.failed ⟨l.ticket, l.records, l.clamps, why⟩))).raisePlayer .loadDone).answer src
                    .loadClose
                    ⟨.ok, {}, encSlotName n ++ [3#8] ++ be1 why.number ++ be2 l.records.length
                      ++ be2 l.clamps⟩))
    ∧ (s.accepts src .loadAbort →
        ((∀ e, s.qm.queue.find? (fun k => k.state == .cued) = some e →
            ∀ n, s.sl.carrying e.ticket = some n → (s.sl.get n).isPlaying = true) →
          exec (.loadAbort src) s = .next ((s.route src .loadAbort).answer src .loadAbort ⟨.noLoad, {}, []⟩))
        ∧ ∀ e n, s.qm.queue.find? (fun k => k.state == .cued) = some e → s.sl.carrying e.ticket = some n →
            (s.sl.get n).isPlaying = false →
            exec (.loadAbort src) s
              = .next (((s.route src .loadAbort).withSl (s.sl.set n .empty)).answer src .loadAbort
                  ⟨.ok, {}, encSlotName n⟩))

/-- The structural checks pass exactly the records R60 lets through, and the first that fails gives the reason. One record of a
load: EXTRA after END, BAD-RECORD where it does not decode by R170, its check's reason, TOO-LONG for place 6,144, and otherwise
stored, with its clamps counted and the load tracking and the derived index brought up to date (R51, R54, R56, R61). That a
failing record's clamps stay counted and that the count stops at the top of R44's range (entry 28), and that TOO-LONG comes
after the other checks (entry 29), is the model's reading. -/
def Obligations.RecordsAreCheckedAndStored : Prop :=
  (∀ k : LoadTracking,
    (∀ (number start stop : Nat) (part : PartTag) (syllables : Nat),
      k.check (.line number start stop part syllables) = none ↔
        k.expected = 0 ∧ 1 ≤ syllables ∧ syllables ≤ 48 ∧ number = k.lastLine + 1 ∧ number ≤ 512
          ∧ start ≤ 1199999 ∧ stop ≤ 1199999 ∧ start < stop ∧ stop ≤ start + 60000 ∧ k.lineStart ≤ start)
    ∧ (∀ (offset duration : Nat) (glyphs : List Nat),
        k.check (.syl offset duration glyphs) = none ↔
          k.lastLine ≠ 0 ∧ k.expected ≠ 0 ∧ k.lineStart + offset < k.lineStop
            ∧ ∀ t, k.lastSyllable = some t → t ≤ k.lineStart + offset)
    ∧ (∀ (start duration number : Nat) (part : PartTag),
        k.check (.note start duration number part) = none ↔
          start ≤ 1199999 ∧ start + duration ≤ 1199999 ∧ (∀ t, k.lastNote = some t → t ≤ start)
            ∧ (part ≠ .p2 → k.noteEndP1 ≤ start) ∧ (part ≠ .p1 → k.noteEndP2 ≤ start))
    ∧ ∀ (kind : MarkKind) (time : Nat),
        k.check (.mark kind time) = none ↔
          time ≤ 1199999
            ∧ (kind = .finish →
                k.expected = 0 ∧ time ≠ 0 ∧ k.latestLineEnd ≤ time ∧ k.noteEndP1 ≤ time ∧ k.noteEndP2 ≤ time))
  ∧ (∀ (l : Load) (raw : List Byte),
    (l.tracking.ended = true → l.applyRecord raw = (l, some .extra))
    ∧ (l.tracking.ended = false →
        (decodeRecord l.order raw = none → l.applyRecord raw = (l, some .badRecord))
        ∧ ∀ r, decodeRecord l.order raw = some r →
            (∀ why, l.tracking.check r.clamp.1 = some why →
              l.applyRecord raw = ({ l with clamps := min 12288 (l.clamps + r.clamp.2) }, some why))
            ∧ (l.tracking.check r.clamp.1 = none →
                (6144 ≤ l.records.length →
                  l.applyRecord raw = ({ l with clamps := min 12288 (l.clamps + r.clamp.2) }, some .tooLong))
                ∧ (l.records.length < 6144 →
                    (l.applyRecord raw).2 = none
                      ∧ (l.applyRecord raw).1.records = l.records ++ [r.clamp.1]
                      ∧ (l.applyRecord raw).1.remaining = l.remaining.map (fun n => n - 1)
                      ∧ (l.applyRecord raw).1.clamps = min 12288 (l.clamps + r.clamp.2)
                      ∧ (l.applyRecord raw).1.ticket = l.ticket ∧ (l.applyRecord raw).1.order = l.order
                      ∧ ((l.applyRecord raw).1.tracking.ended = true ↔
                          ∃ t, r.clamp.1 = .mark .finish t)
                      ∧ (∀ number start stop part syllables, r.clamp.1 = .line number start stop part syllables →
                          (l.applyRecord raw).1.tracking
                              = { l.tracking with
                                  lastLine := number
                                  lineStart := start
                                  lineStop := stop
                                  expected := syllables
                                  lastSyllable := none
                                  latestLineEnd := max l.tracking.latestLineEnd stop }
                            ∧ (l.applyRecord raw).1.index
                              = { l.index with lines := l.index.lines ++ [⟨start, stop, l.records.length⟩] })
                      ∧ (∀ offset duration glyphs, r.clamp.1 = .syl offset duration glyphs →
                          (l.applyRecord raw).1.tracking
                              = { l.tracking with
                                  expected := l.tracking.expected - 1
                                  lastSyllable := some (l.tracking.lineStart + offset) }
                            ∧ (l.applyRecord raw).1.index = l.index)
                      ∧ (∀ (start duration number : Nat) (part : PartTag) (joined : PartIndex → PartIndex),
                          r.clamp.1 = .note start duration number part →
                          (∀ x, joined x
                            = ⟨x.count + 1,
                                some (match x.range with
                                  | none => (number, number)
                                  | some (low, high) => (min low number, max high number))⟩) →
                          (l.applyRecord raw).1.tracking
                              = { l.tracking with
                                  lastNote := some start
                                  noteEndP1 := if part = .p2 then l.tracking.noteEndP1 else start + duration
                                  noteEndP2 := if part = .p1 then l.tracking.noteEndP2 else start + duration }
                            ∧ (l.applyRecord raw).1.index
                              = { l.index with
                                  p1 := if part = .p1 then joined l.index.p1 else l.index.p1
                                  p2 := if part = .p2 then joined l.index.p2 else l.index.p2
                                  both := if part = .both then joined l.index.both else l.index.both })
                      ∧ ∀ kind time, r.clamp.1 = .mark kind time →
                          (l.applyRecord raw).1.tracking = { l.tracking with ended := decide (kind = .finish) }
                            ∧ (l.applyRecord raw).1.index
                              = { l.index with
                                  endTime := if kind = .finish then some time else l.index.endTime }))))
  ∧ (∀ (k : LoadTracking) (first : List (Bool × FailReason) → Option FailReason),
      (∀ checks, first checks = (checks.find? (fun c => c.1)).map (fun c => c.2)) →
      (∀ (number start stop : Nat) (part : PartTag) (syllables : Nat),
        k.check (.line number start stop part syllables)
          = first
              [(decide (k.expected ≠ 0), .sylCount), (decide (syllables < 1 ∨ 48 < syllables), .sylCount),
                (decide (number ≠ k.lastLine + 1 ∨ 512 < number), .lineOrder),
                (decide (1199999 < start ∨ 1199999 < stop), .timeRange),
                (decide (stop ≤ start ∨ start + 60000 < stop ∨ start < k.lineStart), .lineOrder)])
      ∧ (∀ (offset duration : Nat) (glyphs : List Nat),
          k.check (.syl offset duration glyphs)
            = first
                [(decide (k.lastLine = 0), .sylOrphan), (decide (k.expected = 0), .sylCount),
                  (decide (k.lineStop - k.lineStart ≤ offset), .sylRange),
                  (decide (∃ t ∈ k.lastSyllable, k.lineStart + offset < t), .sylRange)])
      ∧ (∀ (start duration number : Nat) (part : PartTag),
          k.check (.note start duration number part)
            = first
                [(decide (1199999 < start ∨ 1199999 < start + duration), .timeRange),
                  (decide (∃ t ∈ k.lastNote, start < t), .noteOrder),
                  (decide ((part ≠ .p2 ∧ start < k.noteEndP1) ∨ (part ≠ .p1 ∧ start < k.noteEndP2)), .noteOrder)])
      ∧ (∀ time : Nat,
          k.check (.mark .finish time)
            = first
                [(decide (k.expected ≠ 0), .sylCount), (decide (1199999 < time), .timeRange),
                  (decide (time = 0 ∨ time < k.latestLineEnd ∨ time < k.noteEndP1 ∨ time < k.noteEndP2), .endEarly)])
      ∧ ∀ (kind : MarkKind) (time : Nat), kind ≠ .finish →
          k.check (.mark kind time) = first [(decide (1199999 < time), .timeRange)])
  ∧ (∀ (order : ByteOrder) (raw : List Byte) (field : Nat → Nat → Nat), raw.length = 16 →
      (∀ place size, field place size
        = ((List.range size).map (fun i =>
            (raw.getD (place + i) 0#8).toNat * 256 ^ (if order = .little then i else size - 1 - i))).sum) →
      (∀ part : Option PartTag, field 0 1 = 1 → part = [none, some PartTag.p1, some .p2, some .both].getD (field 9 1) none →
        decodeRecord order raw
          = part.map (fun p => .line (field 1 2) (field 3 3) (field 6 3) p (field 10 1)))
      ∧ (field 0 1 = 2 →
          decodeRecord order raw
            = some (.syl (field 1 2) (field 3 2) (field 5 1)
                [field 6 2 % 1024, field 8 2 % 1024, field 10 2 % 1024, field 12 2 % 1024, field 14 2 % 1024]))
      ∧ (∀ part : Option PartTag, field 0 1 = 3 → part = [none, some PartTag.p1, some .p2, some .both].getD (field 7 1) none →
          decodeRecord order raw = part.map (fun p => .note (field 1 3) (field 4 2) (field 6 1) p))
      ∧ (∀ kind : Option MarkKind, field 0 1 = 4 →
          kind =
            [none, some MarkKind.verse, some .chorus, some .bridge, some .interlude, some .finish].getD (field 1 1) none →
          decodeRecord order raw = kind.map (fun k => .mark k (field 2 3)))
      ∧ ((field 0 1 = 0 ∨ 4 < field 0 1) → decodeRecord order raw = none))
  ∧ ∀ (dur num count : Nat) (offset start : Nat) (codes : List Nat) (part : PartTag),
      (RawRecord.note start dur num part).clamp
          = (.note start (max 20 (min 20000 dur)) (max 36 (min 96 num)) part,
              (if dur < 20 ∨ 20000 < dur then 1 else 0) + (if num < 36 ∨ 96 < num then 1 else 0))
      ∧ (RawRecord.syl offset dur count codes).clamp
          = (.syl offset (max 1 (min 10000 dur)) (if count = 0 then [32] else codes.take (min count 5)),
              (if dur < 1 ∨ 10000 < dur then 1 else 0) + (if count < 1 ∨ 5 < count then 1 else 0))

/-! ### The stage (chapter 4) -/

/-- START: WRONG-STATE, NOT-READY, BAD-VALUE, or STARTING with its pending start, its end time, the hold timer suspended
and the START notice sent (R67). A notice is taken at once by an idle QM, and otherwise waits behind the notices that came
before it (R29, R31). -/
def Obligations.StartIsTaken : Prop :=
  (∀ (src : Source) (ticket offset : Nat) (s : State), s.accepts src .start →
    (s.sc.stage ≠ .ready → s.sc.stage ≠ .result →
      exec (.start src ticket offset) s = .next ((s.route src .start).answer src .start ⟨.wrongState, {}, []⟩))
    ∧ (s.sc.stage = .ready ∨ s.sc.stage = .result →
        (((∀ e, s.qm.queue.find? (fun k => k.state == .cued) = some e → e.ticket ≠ ticket)
            ∨ ∀ n g, s.sl.carrying ticket = some n → s.sl.get n ≠ .loaded g) →
          exec (.start src ticket offset) s = .next ((s.route src .start).answer src .start ⟨.notReady, {}, []⟩))
        ∧ ∀ (e : Entry) (n : SlotName) (g : Song) (endTime : Nat),
            s.qm.queue.find? (fun k => k.state == .cued) = some e → e.ticket = ticket →
            s.sl.carrying ticket = some n → s.sl.get n = .loaded g → g.index.endTime = some endTime →
            (endTime ≤ offset →
              exec (.start src ticket offset) s
                = .next ((s.route src .start).answer src .start ⟨.badValue, {}, []⟩))
            ∧ (offset < endTime →
                exec (.start src ticket offset) s
                  = .next (((s.route src .start).withSc
                      { s.sc with
                        stage := .starting
                        endTime := some endTime
                        hold := s.sc.hold.suspend
                        pendingStart :=
                          some ⟨ticket, offset, if s.sc.stage = .ready then .ready else .result⟩ }).arrive
                      (.notice (.start ticket))))))
  ∧ ∀ (s : State) (n : Notice),
      (s.qm.inFlight = none →
        s.arrive (.notice n)
          = s.withQm { s.qm with inFlight := some ⟨.notice n, 0b1111#4, s.ps.profile.promote⟩ })
      ∧ (s.qm.inFlight ≠ none →
          s.arrive (.notice n) = s.withQm { s.qm with notices := s.qm.notices ++ [n] })

/-- The START confirmation begins the song for the SC, the SU and the LR and answers the START; the CUE-LOST answer
puts the stage back (R68, R69, R93). -/
def Obligations.StartIsConfirmedOrLost : Prop :=
  ∀ (s u : State) (rest : List Confirmation) (ticket offset : Nat) (back : ReturnState), s.inReset = false →
    s.sc.pendingStart = some ⟨ticket, offset, back⟩ →
    (∀ (key : Int) (tempo : Nat) (duet : Bool), s.qm.toStage = .start key tempo duet :: rest →
      u =
        (((s.withQm { s.qm with toStage := rest }).withSc
          { s.sc with
            stage := .playing
            songTime := offset
            remainder := 0
            key := key
            tempo := tempo
            seekCount := 0
            hold := .stopped
            pendingStart := none }).withSu
          ⟨⟨ScoreLane.afterReset, ScoreLane.afterReset⟩, if duet then .duet else .solo, true⟩) →
      exec .startConfirmation s
        = .next (((u.withLr
            (LyricRenderer.rebuild { s.lr with mode := .rows, card := none, overflow := 0, dropped := 0 }
              (u.lyricInputs offset))).raiseAll .songStarted).answer .player .start
            ⟨.ok, {}, be2 ticket ++ be3 offset ++ encSigned key ++ be1 tempo⟩))
    ∧ (s.qm.toStage = .cueLost :: rest →
        exec .cueLostAnswer s
          = .next (((s.withQm { s.qm with toStage := rest }).withSc
              { s.sc with
                stage := if back = .ready then .ready else .result
                endTime := none
                hold := s.sc.hold.resume
                pendingStart := none }).answer .player .start ⟨.cueLost, {}, []⟩))

/-- PAUSE and RESUME move the stage between PLAYING and PAUSED, raise STAGE-CHANGED and answer the song time; in any
other state they are refused (R72). -/
def Obligations.PauseAndResume : Prop :=
  ∀ (src : Source) (s : State),
    (s.accepts src .pause →
      (s.sc.stage = .playing →
        exec (.pause src) s
          = .next ((((s.route src .pause).withSc { s.sc with stage := .paused }).raiseAll .stageChanged).answer src
              .pause ⟨.ok, {}, be3 s.sc.songTime⟩))
      ∧ (s.sc.stage ≠ .playing →
          exec (.pause src) s = .next ((s.route src .pause).answer src .pause ⟨.wrongState, {}, []⟩)))
    ∧ (s.accepts src .resume →
        (s.sc.stage = .paused →
          exec (.resume src) s
            = .next ((((s.route src .resume).withSc { s.sc with stage := .playing }).raiseAll .stageChanged).answer src
                .resume ⟨.ok, {}, be3 s.sc.songTime⟩))
        ∧ (s.sc.stage ≠ .paused →
            exec (.resume src) s = .next ((s.route src .resume).answer src .resume ⟨.wrongState, {}, []⟩)))

/-- SYNC corrects the clock inside the window, seeks outside it, and ends the song at the end time; outside PLAYING and
PAUSED it is refused (R73, R74, R105). The byte that tells a correction from a seek is the model's choice, entry 21. -/
def Obligations.SyncCorrectsOrSeeks : Prop :=
  ∀ (src : Source) (time stop t seeks : Nat) (s u moved : State), s.accepts src .sync →
    (s.sc.stage ≠ .playing → s.sc.stage ≠ .paused →
      exec (.sync src time) s = .next ((s.route src .sync).answer src .sync ⟨.wrongState, {}, []⟩))
    ∧ ((s.sc.stage = .playing ∨ s.sc.stage = .paused) → s.sc.endTime = some stop → t = min time stop →
        seeks = min 65535 (s.sc.seekCount + 1) →
        u =
          (((s.route src .sync).withSc { s.sc with songTime := t, remainder := 0, seekCount := seeks }).withSu
            { s.su with
              lanes :=
                ⟨{ s.su.lanes.lane0 with openNote := none, resumeTime := some t },
                  { s.su.lanes.lane1 with openNote := none, resumeTime := some t }⟩ }) →
        ((t ≤ s.sc.songTime + s.ps.profile.syncWindow → s.sc.songTime ≤ t + s.ps.profile.syncWindow →
            moved = (s.route src .sync).withSc { s.sc with songTime := t, remainder := 0 } →
            exec (.sync src time) s
              = .next ((if t = stop then moved.finalise .completed else moved).answer src .sync
                  ⟨.ok, { clamped := decide (stop < time) },
                    be3 t ++ [0#8] ++ be2 s.sc.seekCount ++ encBool (t == stop)⟩))
          ∧ ((s.sc.songTime + s.ps.profile.syncWindow < t ∨ t + s.ps.profile.syncWindow < s.sc.songTime) →
              moved = u.withLr (s.lr.rebuild (u.lyricInputs t)) →
              exec (.sync src time) s
                = .next ((if t = stop then moved.finalise .completed else moved).answer src .sync
                    ⟨.ok, { clamped := decide (stop < time) },
                      be3 t ++ [1#8] ++ be2 seeks ++ encBool (t == stop)⟩))))

/-- KEY, KEY-STEP and TEMPO: the checks in their order, and the clamped value, with STAGE-CHANGED where it moved (R75,
R76). -/
def Obligations.KeyAndTempoMove : Prop :=
  (∀ (src : Source) (s : State) (i : Instr) (c : Command) (asked : Int), s.accepts src c →
    (∀ d, d ≠ 1 → d ≠ -1 → c = .keyStep →
      exec (.keyStep src d) s = .next ((s.route src .keyStep).answer src .keyStep ⟨.badValue, {}, []⟩))
    ∧ (((c = .key ∧ i = .key src asked)
          ∨ ∃ d, (d = 1 ∨ d = -1) ∧ c = .keyStep ∧ i = .keyStep src d ∧ asked = s.sc.key + d) →
        (src ≠ .player → rightsHold (s.port src).rights .key = false →
          exec i s = .next ((s.route src c).answer src c ⟨.noRight, {}, []⟩))
        ∧ ((src = .player ∨ rightsHold (s.port src).rights .key = true) →
            (s.sc.stage ≠ .playing → s.sc.stage ≠ .paused →
              exec i s = .next ((s.route src c).answer src c ⟨.wrongState, {}, []⟩))
            ∧ ((s.sc.stage = .playing ∨ s.sc.stage = .paused) → ∀ k : Int, k = max (-6) (min 6 asked) →
                (k = s.sc.key →
                  exec i s = .next ((s.route src c).answer src c ⟨.ok, { clamped := k != asked }, encSigned k⟩))
                ∧ (k ≠ s.sc.key →
                    exec i s
                      = .next ((((s.route src c).withSc { s.sc with key := k }).raiseAll .stageChanged).answer src c
                          ⟨.ok, { clamped := k != asked }, encSigned k⟩))))))
  ∧ (∀ (src : Source) (p : Nat) (s : State), s.accepts src .tempo →
    (s.sc.stage ≠ .playing → s.sc.stage ≠ .paused →
      exec (.tempo src p) s = .next ((s.route src .tempo).answer src .tempo ⟨.wrongState, {}, []⟩))
    ∧ ((s.sc.stage = .playing ∨ s.sc.stage = .paused) → ∀ k, k = max 85 (min 115 p) →
        (k = s.sc.tempo →
          exec (.tempo src p) s
            = .next ((s.route src .tempo).answer src .tempo ⟨.ok, { clamped := k != p }, be1 k⟩))
        ∧ (k ≠ s.sc.tempo →
            exec (.tempo src p) s
              = .next ((((s.route src .tempo).withSc { s.sc with tempo := k }).raiseAll .stageChanged).answer src .tempo
                  ⟨.ok, { clamped := k != p }, be1 k⟩))))

/-- STOP finalises the song: the notes close, the stage is ENDING and the RETIRE notice carries the time and the finals
(R77, R78, R107). The RETIRE confirmation brings the result card, or READY where the result hold is 0, or nothing in
RESETTING; SONG-ENDED is raised and a STOP that waits is answered (R79; its payload by entries 18 and 20, the model's
choices). -/
def Obligations.StopAndRetire : Prop :=
  (∀ (src : Source) (s : State) (closed : ScoreUnit), s.accepts src .stop →
    (s.sc.stage ≠ .playing → s.sc.stage ≠ .paused →
      exec (.stop src) s = .next ((s.route src .stop).answer src .stop ⟨.wrongState, {}, []⟩))
    ∧ ((s.sc.stage = .playing ∨ s.sc.stage = .paused) →
        closed = { s.su with lanes := ⟨s.su.lanes.lane0.close, s.su.lanes.lane1.close⟩ } →
        exec (.stop src) s
          = .next ((((s.route src .stop).withSu closed).withSc { s.sc with stage := .ending }).arrive
              (.notice (.retire .stopped s.sc.songTime ⟨closed.lanes.lane0.finals, closed.lanes.lane1.finals⟩)))))
  ∧ (∀ (s shown : State) (rest : List Confirmation), s.inReset = false → s.qm.toStage = .retire :: rest →
    ((s.sc.stage = .resetting
        ∧ shown = (s.withQm { s.qm with toStage := rest }).withSc { s.sc with endTime := none })
      ∨ (s.sc.stage ≠ .resetting ∧ s.ps.profile.resultHold = 0
          ∧ shown =
              (((s.withQm { s.qm with toStage := rest }).withSc
                { s.sc with endTime := none, stage := .ready }).withLr (s.lr.emptied .empty)).raiseAll .stageChanged)
      ∨ (s.sc.stage ≠ .resetting ∧ s.ps.profile.resultHold ≠ 0
          ∧ shown =
              ((s.withQm { s.qm with toStage := rest }).withSc
                { s.sc with
                  endTime := none
                  stage := .result
                  hold := .running s.ps.profile.resultHold }).withLr
                (s.lr.showCard s.vc.geometry s.qm.history.getLast?))) →
    ((s.port .player).condition ≠ .outstanding Command.stop.code →
      exec .retireConfirmation s = .next (shown.raiseAll .songEnded))
    ∧ ((s.port .player).condition = .outstanding Command.stop.code →
        exec .retireConfirmation s
          = .next ((shown.raiseAll .songEnded).answer .player .stop
              ⟨.ok, {}, be1 1 ++ be3 s.sc.songTime ++ finalsPayload s.su.lanes.lane0.finals
                ++ finalsPayload s.su.lanes.lane1.finals⟩)))

/-- SKIP-RESULT and the hold timer's expiry end the result alike: READY, the timer stopped, the card dropped,
STAGE-CHANGED raised (R80). That the expiry row is the whole last millisecond is the model's reading (entries 4, 5). -/
def Obligations.ResultEnds : Prop :=
  (∀ (src : Source) (s : State), s.accepts src .skipResult →
    (s.sc.stage = .result →
      exec (.skipResult src) s
        = .next (((((s.route src .skipResult).withSc { s.sc with stage := .ready, hold := .stopped }).withLr
            (s.lr.emptied .empty)).raiseAll .stageChanged).answer src .skipResult ⟨.ok, {}, []⟩))
    ∧ (s.sc.stage ≠ .result →
        exec (.skipResult src) s
          = .next ((s.route src .skipResult).answer src .skipResult ⟨.wrongState, {}, []⟩)))
  ∧ ∀ s ended : State, s.inReset = false → s.sc.stage = .result →
      ended =
        ((s.withSc { s.sc with stage := .ready, hold := .stopped }).withLr (s.lr.emptied .empty)).raiseAll
          .stageChanged →
      (∀ n, s.sc.hold = .running n → 1 < n →
        exec .holdTimerExpiry s = .next s
          ∧ exec .timebaseMillisecond s = .next ((s.withSc { s.sc with hold := .running (n - 1) }).vcMillisecond))
      ∧ (s.sc.hold = .running 1 →
          exec .holdTimerExpiry s = .next ended.vcMillisecond
            ∧ exec .timebaseMillisecond s = .next ended.vcMillisecond)

/-- STAGE-RESET is refused in STARTING and RESETTING; otherwise the notes and the lyric zone are cleared, but for the three
counts and the glyph table, the timer is stopped and the RESET notice sent. Its confirmation makes the stage READY and answers
it (R81, R82, R108, R132). -/
def Obligations.StageResetRuns : Prop :=
  (∀ (src : Source) (s : State), s.accepts src .stageReset →
    ((s.sc.stage = .starting ∨ s.sc.stage = .resetting) →
      exec (.stageReset src) s = .next ((s.route src .stageReset).answer src .stageReset ⟨.wrongState, {}, []⟩))
    ∧ (s.sc.stage ≠ .starting → s.sc.stage ≠ .resetting →
        exec (.stageReset src) s
          = .next (((((s.route src .stageReset).withSu
              { s.su with
                lanes := ⟨{ s.su.lanes.lane0 with openNote := none }, { s.su.lanes.lane1 with openNote := none }⟩
              }).withLr
              { s.lr with
                mode := .empty
                stack := []
                waiting := []
                scroll := none
                pendingShift := 0
                nextLine := 1
                card := none
                holdOn := false }).withSc { s.sc with stage := .resetting, hold := .stopped }).arrive
              (.notice (.reset s.sc.songTime)))))
  ∧ ∀ (s : State) (rest : List Confirmation), s.inReset = false → s.qm.toStage = .reset :: rest →
      exec .resetConfirmation s
        = .next ((((s.withQm { s.qm with toStage := rest }).withSc
            { s.sc with stage := .ready, endTime := none }).raiseAll .stageChanged).answer .player .stageReset
            ⟨.ok, {}, []⟩)

/-- A millisecond of the timebase in PLAYING: the tempo joins the remainder, song time moves on, never past the end time, and
the song that reaches it is finalised (R70, R71). Where the sum is 200 or more the spec disagrees with itself, and what happens
is a free value with the remainder in its range (entry 44). SONG_END is that last millisecond whole, and changes nothing at
another time (entry 4, the model's reading). In every other stage state song time and remainder stay, and outside RESULT, or with
the hold timer not running, nothing but the VC's part happens (R70, R80). The VC's part follows (entry 5). -/
def Obligations.MillisecondRunsTheClock : Prop :=
  (∀ (s moved : State) (stop sum top : Nat), s.inReset = false → s.sc.stage = .playing → s.sc.endTime = some stop →
    sum = s.sc.remainder + s.sc.tempo → top = max s.sc.songTime stop →
    ((sum < 100 ∧ moved = s.withSc { s.sc with remainder := sum })
      ∨ (100 ≤ sum ∧ sum < 200
          ∧ moved = s.withSc { s.sc with songTime := min (s.sc.songTime + 1) top, remainder := sum - 100 })
      ∨ (200 ≤ sum ∧ Config.tempoCarry sum = none
          ∧ moved = s.withSc { s.sc with songTime := min (s.sc.songTime + 2) top, remainder := sum - 200 })
      ∨ ∃ r : Fin 100, 200 ≤ sum ∧ Config.tempoCarry sum = some r
          ∧ moved = s.withSc { s.sc with songTime := min (s.sc.songTime + 1) top, remainder := r }) →
    (moved.sc.songTime < stop →
      exec .timebaseMillisecond s = .next moved.vcMillisecond ∧ exec .songEnd s = .next s)
    ∧ (stop ≤ moved.sc.songTime →
        exec .timebaseMillisecond s = .next (moved.finalise .completed).vcMillisecond
          ∧ exec .songEnd s = .next (moved.finalise .completed).vcMillisecond))
  ∧ (∀ s : State, s.inReset = false → s.sc.stage ≠ .playing →
      exec .songEnd s = .next s
      ∧ (∃ t, exec .timebaseMillisecond s = .next t ∧ t.sc.songTime = s.sc.songTime ∧ t.sc.remainder = s.sc.remainder)
      ∧ ((s.sc.stage ≠ .result ∨ ∀ n, s.sc.hold ≠ .running n) →
          exec .timebaseMillisecond s = .next s.vcMillisecond ∧ exec .holdTimerExpiry s = .next s))
  ∧ ∀ s : State,
      ((s.vc.lock = .locked → ∀ n, s.vc.lossTimer = some n → 1 < n) →
        s.vcMillisecond
          = s.withVc
              { s.vc with
                measurement := s.vc.measurement.map (fun m => { m with elapsed := m.elapsed + 1 })
                lossTimer :=
                  if s.vc.lock = .locked then s.vc.lossTimer.map (fun n => n - 1) else s.vc.lossTimer })
      ∧ s.vcMillisecond.sc = s.sc ∧ s.vcMillisecond.qm = s.qm ∧ s.vcMillisecond.sl = s.sl ∧ s.vcMillisecond.pt = s.pt
      ∧ s.vcMillisecond.su = s.su

/-- STATUS, LYRIC-STATUS and VIDEO-STATUS answer at once with the state as it stands, byte for byte, and change nothing but
their port (R84, R132, R156, R169, R171; the two bytes of a measured width or height are the model's choice, entries 22 and
47). The interlude hold reported is as the last frame start found it: a change to EMPTY or CARD keeps it, and a frame start
finds it on in the ROWS mode by R123 (off outside that mode: entry 42, the model's reading). -/
def Obligations.StatusReadsAnswer : Prop :=
  (∀ (src : Source) (s : State),
    (s.accepts src .status →
      exec (.status src) s = .next ((s.route src .status).answer src .status ⟨.ok, {}, s.statusPayload⟩)
        ∧ s.statusPayload.length = 22)
    ∧ (s.accepts src .lyricStatus →
        exec (.lyricStatus src) s
            = .next ((s.route src .lyricStatus).answer src .lyricStatus
                ⟨.ok, {}, lyricPayload s.lr s.vc.geometry⟩)
          ∧ (lyricPayload s.lr s.vc.geometry).length = 22 + 4 * s.lr.stack.length)
    ∧ (s.accepts src .videoStatus →
        exec (.videoStatus src) s
            = .next ((s.route src .videoStatus).answer src .videoStatus
                ⟨.ok, {}, videoPayload s.vc s.ps.profile.staged⟩)
          ∧ (videoPayload s.vc s.ps.profile.staged).length = 19))
  ∧ (∀ (s : State) (stage playing cued : Nat) (slot : Slot) (slotByte score0 score1 : Nat),
      stage =
        (match s.sc.stage with
          | .ready => 0 | .starting => 1 | .playing => 2 | .paused => 3 | .ending => 4 | .result => 5
          | .resetting => 6) →
      playing = ((s.qm.queue.find? (fun e => e.state == .playing)).map (fun e => e.ticket)).getD 0 →
      cued = ((s.qm.queue.find? (fun e => e.state == .cued)).map (fun e => e.ticket)).getD 0 →
      slot =
        (match s.qm.queue.find? (fun e => e.state == .cued) with
          | none => .empty
          | some e =>
            if s.sl.slotA.ticket = some e.ticket then s.sl.slotA
            else if s.sl.slotB.ticket = some e.ticket then s.sl.slotB
            else .empty) →
      slotByte =
        (match slot with | .empty => 0 | .loading _ => 1 | .loaded _ => 2 | .failed _ => 3 | .playing _ => 4) →
      score0 =
        (if s.su.lanes.lane0.frameCount = 0 ∨ s.su.lanes.lane0.engaged = false then 0xFFFF
        else 1000 * s.su.lanes.lane0.hitSum / (8 * s.su.lanes.lane0.frameCount)) →
      score1 =
        (if s.su.lanes.lane1.frameCount = 0 ∨ s.su.lanes.lane1.engaged = false then 0xFFFF
        else 1000 * s.su.lanes.lane1.hitSum / (8 * s.su.lanes.lane1.frameCount)) →
      s.statusPayload
        = be1 stage ++ be3 s.sc.songTime ++ [BitVec.ofInt 8 s.sc.key] ++ be1 s.sc.tempo ++ be2 playing ++ be2 cued
          ++ be1 slotByte ++ be2 score0 ++ be2 s.su.lanes.lane0.streak ++ be2 score1
          ++ be2 s.su.lanes.lane1.streak ++ be2 s.sc.seekCount ++ be1 (if s.ps.defaulted = true then 1 else 0))
  ∧ (∀ (r : LyricRenderer) (g : Geometry) (mode : Nat) (c : Scroll),
      mode = (match r.mode with | .empty => 0 | .rows => 1 | .card => 2) → c = r.scroll.getD ⟨0, 0, 0⟩ →
      lyricPayload r g
        = be1 mode ++ be1 g.rows ++ be1 (if g.rows = 0 then 1 else 0) ++ be1 g.pitch
          ++ be2 (g.width - 2 * g.margin) ++ be1 r.stack.length
          ++ r.stack.flatMap (fun l => be2 l.number ++ be1 l.rows ++ be1 (if l.spent = true then 1 else 0))
          ++ be2 r.waiting.length ++ be2 r.nextLine ++ be1 c.distance ++ be1 c.done ++ be1 c.frames
          ++ be1 r.pendingShift ++ be1 (if r.holdOn = true then 1 else 0) ++ be2 r.missing ++ be2 r.overflow
          ++ be2 r.dropped)
  ∧ (∀ (v : VideoCompositor) (f : FrameSettings) (m : MeasuredSize), m = v.lastMeasured.getD ⟨0, 0, false⟩ →
      m.width < 65536 → m.height < 65536 →
      videoPayload v f
        = be1 (if v.lock = .locked then 0 else 1) ++ be1 (if v.everLocked = true then 1 else 0) ++ be2 v.width
          ++ be2 v.height ++ be2 m.width ++ be2 m.height ++ be1 (if m.inRange = true then 1 else 0)
          ++ be1 v.live.ht ++ be2 v.live.hl ++ be1 v.live.hm ++ be1 f.ht ++ be2 f.hl ++ be1 f.hm)
  ∧ (∀ (r : LyricRenderer) (g : Geometry) (newest : Option HistoryRecord) (mode : DisplayMode),
      (r.emptied mode).holdOn = r.holdOn ∧ (r.showCard g newest).holdOn = r.holdOn)
  ∧ ∀ (s : State) (g : Song) (past : List Nat) (size : Option (Nat × Nat)),
      g = s.sl.playingSong.getD Song.blank →
      (∀ m, m ∈ past ↔ CueRecord.mark .interlude m ∈ g.records ∧ m ≤ s.sc.songTime) →
      ((s.frameStart size).lr.holdOn = true ↔ s.lr.mode = .rows ∧ ∃ m ∈ past, (∀ n ∈ past, n ≤ m)
        ∧ ∀ e, g.index.lines.find? (fun e => decide (m ≤ e.start)) = some e →
            s.sc.songTime + s.ps.profile.lead < e.start)
      ∧ (s.inReset = false → s.vc.lock = .lost → s.vc.internalTiming = true →
          exec .outputFrameStart s = .next (s.frameStart none))

/-! ### Pitch and scores (chapter 5) -/

/-- I2S reception: a sample is the first 16 bits that follow the first rising edge after a change of the word clock, the most
significant first, the left channel's while it is low; the first frame begins with the first change to low (R86; the row as a
run of edges is entry 12, the model's reading). A frame joins the frame in progress; the 480th completes it: the reports are
made with the latched key, the stage key is latched, MIC-CLIP follows the hold-off, and the SU takes the reports (R87, R91, R94,
R176). The first analysis frame latches the stage key as its first I2S frame begins (R87; entry 31). A report holds the frame's
level, its clip decision of 3 or more samples at +32,767 or -32,768, its sung pitch and the latched key (R88 to R91). -/
def Obligations.AnalysisFrameCompletes : Prop :=
  (∀ (s : State) (bits : List Bool) (last : Bool), s.inReset = false →
    (s.pt.receiver = ⟨none, false, [], none⟩ →
      exec (.analysisFrameCompletion (edgesAt false bits)) s
          = .next (s.withPt
              { s.pt with receiver := ⟨if bits = [] then none else some false, false, [], none⟩ })
      ∧ (bits ≠ [] →
          exec (.analysisFrameCompletion (edgesAt true bits ++ [⟨false, last⟩])) s
            = .next (s.withPt { s.pt with receiver := ⟨some false, true, [], none⟩, latchedKey := s.sc.key })))
    ∧ ∀ x : Sample, s.pt.receiver = ⟨some false, true, [], none⟩ → (bits ++ [last]).take 16 = sampleBits x →
        exec (.analysisFrameCompletion (edgesAt false bits ++ [⟨true, last⟩])) s
          = .next (s.withPt { s.pt with receiver := ⟨some true, true, [], some x⟩ }))
  ∧ (∀ (s : State) (bits : List Bool) (last : Bool) (l r : Sample) (edges : List BitClockEdge)
      (all frame : List StereoSample) (r0 r1 : PitchReport), s.inReset = false →
      s.pt.receiver = ⟨some true, true, [], some l⟩ → (bits ++ [last]).take 16 = sampleBits r →
      edges = edgesAt true bits ++ [⟨false, last⟩] → all = s.pt.inProgress ++ [(l, r)] →
      (all.length < 480 →
        exec (.analysisFrameCompletion edges) s
          = .next (s.withPt { s.pt with receiver := ⟨some false, true, [], none⟩, inProgress := all }))
      ∧ (480 ≤ all.length →
          frame = all.take 480 →
          r0 = pitchReport s.ps.profile.voiceThreshold s.pt.latchedKey s.pt.lanes.lane0.previous
            (frame.map (fun x => x.1)) →
          r1 = pitchReport s.ps.profile.voiceThreshold s.pt.latchedKey s.pt.lanes.lane1.previous
            (frame.map (fun x => x.2)) →
          ∃ t, exec (.analysisFrameCompletion edges) s = .next t
            ∧ t.pt =
                { receiver := ⟨some false, true, [], none⟩
                  inProgress := all.drop 480
                  latchedKey := s.sc.key
                  lanes :=
                    ⟨⟨frame.map (fun x => x.1), some r0, !r0.clip⟩, ⟨frame.map (fun x => x.2), some r1, !r1.clip⟩⟩ }
            ∧ (∀ src, (t.port src).events
                = (s.port src).events
                  ||| (if s.pt.lanes.lane0.armed && r0.clip then (Event.micClip .zero).bit else 0#12)
                  ||| (if s.pt.lanes.lane1.armed && r1.clip then (Event.micClip .one).bit else 0#12))
            ∧ (s.su.guarded = true → t.su = { s.su with guarded := false })
            ∧ (s.su.guarded = false → s.sc.stage ≠ .playing → t.su = s.su)
            ∧ (s.su.guarded = false → s.sc.stage = .playing →
                t.su =
                  { s.su with
                    lanes :=
                      ⟨s.scoreLane (s.sl.playingSong.getD Song.blank) .zero s.su.lanes.lane0 r0,
                        s.scoreLane (s.sl.playingSong.getD Song.blank) .one s.su.lanes.lane1 r1⟩ })
            ∧ t.qm = s.qm ∧ t.sl = s.sl ∧ t.sc = s.sc ∧ t.lr = s.lr ∧ t.tu = s.tu ∧ t.mu = s.mu ∧ t.vc = s.vc
            ∧ t.ps = s.ps))
  ∧ ∀ (threshold key : Int) (previous current : List Sample) (report : PitchReport),
      report = pitchReport threshold key previous current →
      report.level = frameLevel (current.map (fun v => v.toInt))
      ∧ (report.clip = true ↔ 3 ≤ current.countP (fun v => v == 0x7FFF#16 || v == 0x8000#16))
      ∧ report.pitch = sungPitch threshold (previous.map (fun v => v.toInt)) (current.map (fun v => v.toInt))
      ∧ report.key = key

/-- The level is the floor of 20 log10 of the rms over full scale, clamped to -90..0: it is at least -m exactly when the
sum of squares S satisfies S^10 × 10^m ≥ (480 × 2^30)^10 (R88). Silence is -90, and full scale 0. A frame is voiced only at the
voice threshold, where the best period's correlation is at least 0.60, and where the pitch found there lies in
3,600..9,600; the best period is the one from 11 to 368 of the largest c(p), the smallest of several (R90). The period is refined between samples
from 12 to 367, and the sung pitch is the nearest cent to 1200 log2 of 24,000 over the period over 8.1758, halves up (R90). -/
def Obligations.LevelIsTheFloor : Prop :=
  (∀ x : List Int, x.length = 480 → (∀ v ∈ x, v.natAbs ≤ 32768) →
    -90 ≤ frameLevel x ∧ frameLevel x ≤ 0
      ∧ (∀ m : Nat, m < 90 →
          (-(m : Int) ≤ frameLevel x ↔
            (480 * 2 ^ 30) ^ 10 ≤ ((x.map (fun v => v.natAbs * v.natAbs)).sum) ^ 10 * 10 ^ m))
      ∧ ((∀ v ∈ x, v = 0) → frameLevel x = -90) ∧ ((∀ v ∈ x, v = -32768) → frameLevel x = 0))
  ∧ (∀ (threshold : Int) (previous current x : List Int) (c : Nat → ℝ), x = previous ++ current → x.length = 960 →
      (∀ p, c p =
        ((List.range (960 - p)).map (fun i => ((x.getD i 0 * x.getD (i + p) 0 : Int) : ℝ))).sum
          / Real.sqrt
              (((List.range (960 - p)).map (fun i => ((x.getD i 0 : Int) : ℝ) ^ 2)).sum
                * ((List.range (960 - p)).map (fun i => ((x.getD (i + p) 0 : Int) : ℝ) ^ 2)).sum)) →
      ∃ P : Nat, 11 ≤ P ∧ P ≤ 368 ∧ (∀ p, 11 ≤ p → p ≤ 368 → c p ≤ c P ∧ (p < P → c p < c P))
        ∧ (sungPitch threshold previous current
            = if threshold ≤ frameLevel current ∧ 0.6 ≤ c P then (refinedOf x P (correlationAt x P)).pitch else none)
        ∧ (∀ (divisor period : ℝ) (cents : ℤ), divisor = 2 * (c (P - 1) - 2 * c P + c (P + 1)) →
            period = (if 12 ≤ P ∧ P ≤ 367 ∧ divisor ≠ 0 then P + (c (P - 1) - c (P + 1)) / divisor else P) →
            cents = ⌊1200 * Real.logb 2 (24000 / period / 8.1758) + 1 / 2⌋ →
            sungPitch threshold previous current
              = if threshold ≤ frameLevel current ∧ 0.6 ≤ c P ∧ 3600 ≤ cents ∧ cents ≤ 9600 then some cents else none)
        ∧ ∀ s, sungPitch threshold previous current = some s → 3600 ≤ s ∧ s ≤ 9600)

/-- The frame quality: 0 unvoiced, 8 within the tolerance, falling to 0 at twice the tolerance, on the deviation folded
to the nearest octave where the fold is on (R96, R97, R98). -/
def Obligations.FrameQualityFalls : Prop :=
  ∀ (tolerance : Nat) (fold : Bool) (report : PitchReport) (number : Nat) (s d : Int),
    (report.pitch = none → frameQuality tolerance fold report number = 0)
    ∧ (report.pitch = some s →
        ((fold = false ∧ d = s - 100 * (number + report.key))
          ∨ (fold = true ∧ -600 ≤ d ∧ d ≤ 599 ∧ ∃ octaves : Int, s - 100 * (number + report.key) = d + 1200 * octaves)) →
        (d.natAbs ≤ tolerance → frameQuality tolerance fold report number = 8)
        ∧ (tolerance < d.natAbs → d.natAbs < 2 * tolerance →
            frameQuality tolerance fold report number = 8 * (2 * tolerance - d.natAbs) / tolerance
              ∧ frameQuality tolerance fold report number ≤ 7)
        ∧ (2 * tolerance ≤ d.natAbs → 0 < tolerance → frameQuality tolerance fold report number = 0))

/-- A closing note is graded once, its grade from the floor of its accuracy, the streak and the recent grades with it;
a full lane discards it (R100, R101, R102). The active note is the candidate of the lane, the P1 note of two, unless it starts
before the resume time (R95; of two, the P1 note alone is held against it: entry 49, the model's reading), and a scored report closes,
opens and counts by it (R94, R99). -/
def Obligations.NoteCloses : Prop :=
  (∀ (k : ScoreLane) (n : OpenNote) (a : Nat) (g : Grade), k.openNote = some n →
    a = 100 * n.hits / (8 * n.frames) →
    g = (if 90 ≤ a then .perfect else if 70 ≤ a then .good else if 40 ≤ a then .fair else .miss) →
    ((6144 ≤ k.graded ∨ 131071 < k.frameCount + n.frames) → k.close = { k with openNote := none })
    ∧ (k.graded < 6144 → k.frameCount + n.frames ≤ 131071 →
        k.close.openNote = none ∧ k.close.hitSum = k.hitSum + n.hits
          ∧ k.close.frameCount = k.frameCount + n.frames ∧ k.close.graded = k.graded + 1
          ∧ k.close.counts
              = ⟨k.counts.perfect + (if g = .perfect then 1 else 0), k.counts.good + (if g = .good then 1 else 0),
                  k.counts.fair + (if g = .fair then 1 else 0), k.counts.miss + (if g = .miss then 1 else 0)⟩
          ∧ k.close.streak = (if 70 ≤ a then k.streak + 1 else 0)
          ∧ k.close.maxStreak = max k.maxStreak k.close.streak
          ∧ k.close.recent = (k.recent ++ [(n.start, g)]).drop (if 16 ≤ k.recent.length then 1 else 0)
          ∧ k.close.engaged = k.engaged ∧ k.close.resumeTime = k.resumeTime))
  ∧ (∀ (notes candidates : List NoteAt) (mode : SongMode) (l : Lane) (t : Nat) (resume : Option Nat),
      candidates =
        notes.filter (fun n =>
          decide (n.start ≤ t ∧ t < n.start + n.duration
            ∧ (mode = .solo ∨ n.part = .both ∨ n.part = (if l = .zero then .p1 else .p2)))) →
      (candidates = [] → activeNote notes mode l t resume = none)
      ∧ ∀ n, (candidates.find? (fun m => m.part == .p1) = some n
            ∨ ((∀ m ∈ candidates, m.part ≠ .p1) ∧ candidates.head? = some n)) →
          ((∃ r, resume = some r ∧ n.start < r) → activeNote notes mode l t resume = none)
          ∧ ((∀ r, resume = some r → r ≤ n.start) → activeNote notes mode l t resume = some n))
  ∧ ∀ (s : State) (g : Song) (l : Lane) (k heard : ScoreLane) (report : PitchReport) (active : Option NoteAt),
      heard = { k with engaged := k.engaged || report.pitch.isSome } →
      active = activeNote g.notes s.su.mode l s.sc.songTime k.resumeTime →
      (active = none → s.scoreLane g l k report = heard.close)
      ∧ ∀ (n : NoteAt) (q : Nat), active = some n →
          q = frameQuality s.ps.profile.tolerance s.ps.profile.fold report n.number →
          (∀ o, k.openNote = some o → o.position = n.position →
            s.scoreLane g l k report
              = { heard with openNote := some { o with frames := o.frames + 1, hits := o.hits + q } })
          ∧ ((∀ o, k.openNote = some o → o.position ≠ n.position) →
              s.scoreLane g l k report
                = { heard.close with
                    openNote := some ⟨n.position, n.start, n.duration, n.number, n.part, 1, q⟩ })

/-! ### The lyric zone and the ticker (chapters 6 and 7) -/

/-- The lyric zone never shows more rows than its effective row count, and none outside the ROWS mode: every step keeps it so, as
a rebuild makes it so and the five stages of a frame start keep it (R113, R114, R118, R121, R128). -/
def Obligations.LyricRowsFit : Prop :=
  (∀ s t : State, s.lyricRowsFit → step s = .next t → t.lyricRowsFit)
  ∧ ∀ (r : LyricRenderer) (i : LyricInputs),
      rowsHeld (r.rebuild i).stack ≤ i.geometry.rows
      ∧ (rowsHeld r.stack ≤ i.geometry.rows → rowsHeld (r.schedule i).stack ≤ i.geometry.rows)

/-- GLYPH-LOAD and IDLE-TEXT: BAD-VALUE by their values; otherwise the place or the idle text takes the new value and
the ticker is marked (R111, R135, R136). -/
def Obligations.GlyphsAndIdleText : Prop :=
  ∀ (src : Source) (s : State),
    (s.accepts src .glyphLoad → ∀ p : GlyphParams,
      ((1023 < p.code ∨ p.advance = 0 ∨ 32 < p.advance ∨ 32 < p.maskWidth) →
        exec (.glyphLoad src p) s = .next ((s.route src .glyphLoad).answer src .glyphLoad ⟨.badValue, {}, []⟩))
      ∧ (p.code ≤ 1023 → 1 ≤ p.advance → p.advance ≤ 32 → p.maskWidth ≤ 32 → glyphTableWf s.lr.glyphs →
          ∃ table : List GlyphPlace, glyphTableWf table
            ∧ glyphAt table p.code
                = some ⟨p.advance, p.maskWidth, p.rows.map (fun (r : MaskRow) => (r >>> (32 - p.maskWidth)) <<< (32 - p.maskWidth))⟩
            ∧ (∀ code, code ≠ p.code → glyphAt table code = glyphAt s.lr.glyphs code)
            ∧ exec (.glyphLoad src p) s
                = .next ((((s.route src .glyphLoad).withLr { s.lr with glyphs := table }).withTu
                    { s.tu with mark := true }).answer src .glyphLoad
                    ⟨.ok, {}, be2 p.code ++ encBool (glyphAt s.lr.glyphs p.code).isSome⟩)))
    ∧ (s.accepts src .idleText → ∀ text : List Nat,
        ((48 < text.length ∨ ∃ c ∈ text, 1023 < c) →
          exec (.idleText src text) s = .next ((s.route src .idleText).answer src .idleText ⟨.badValue, {}, []⟩))
        ∧ (text.length ≤ 48 → (∀ c ∈ text, c ≤ 1023) →
            exec (.idleText src text) s
              = .next (((s.route src .idleText).withTu { s.tu with idleText := text, mark := true }).answer src
                  .idleText ⟨.ok, {}, be1 text.length⟩)))

/-! ### The video path (chapter 8) -/

/-- ZONES: BAD-VALUE by the zones' ranges and the live height, or the three staged heights set (R152). An output frame
start latches the staged settings, reduced where they do not fit, and GEOMETRY-CLAMPED says so; the meter is built in
PLAYING and PAUSED, kept in ENDING and empty elsewhere; the song, the queue and the slots are as they were (R138, R153,
R154). The same of `State.frameStart`, the work of every output frame start: the internal timing's, an input frame start's in
LOCKED, a regain's and a loss's (R148 to R150), with the size it brings in (that OUTPUT_FRAME_START is the internal timing's
alone is entry 11, the model's reading). -/
def Obligations.ZonesAndFrameStart : Prop :=
  (∀ (src : Source) (ht hl hm : Nat) (s : State), s.accepts src .zones →
    (((1 ≤ ht ∧ ht ≤ 23) ∨ 64 < ht ∨ (1 ≤ hm ∧ hm ≤ 47) ∨ 160 < hm ∨ s.vc.height < ht + hl + hm) →
      exec (.zones src ht hl hm) s = .next ((s.route src .zones).answer src .zones ⟨.badValue, {}, []⟩))
    ∧ ((ht = 0 ∨ (24 ≤ ht ∧ ht ≤ 64)) → (hm = 0 ∨ (48 ≤ hm ∧ hm ≤ 160)) → ht + hl + hm ≤ s.vc.height →
        exec (.zones src ht hl hm) s
          = .next (((s.route src .zones).withPs
              { s.ps with
                profile :=
                  { s.ps.profile with staged := { s.ps.profile.staged with ht := ht, hl := hl, hm := hm } } }).answer
              src .zones ⟨.ok, {}, be1 ht ++ be2 hl ++ be1 hm⟩)))
  ∧ (∀ s : State, s.inReset = false → s.vc.lock = .lost → s.vc.internalTiming = true → s.settingsInRange →
    ∃ t, exec .outputFrameStart s = .next t
      ∧ t.vc.live = t.ps.profile.staged
      ∧ t.vc.live.ht + t.vc.live.hl + t.vc.live.hm ≤ t.vc.height
      ∧ t.vc.live
          = { s.ps.profile.staged with
              hl := min s.ps.profile.staged.hl (s.vc.height - s.ps.profile.staged.ht - s.ps.profile.staged.hm) }
      ∧ (∀ src, (t.port src).events
          = (s.port src).events
            ||| (if s.vc.height < s.ps.profile.staged.ht + s.ps.profile.staged.hl + s.ps.profile.staged.hm then
              Event.geometryClamped.bit else 0#12))
      ∧ t.vc.picture = some ⟨t.tickerDrawing, t.lyricDrawing, t.meterDrawing⟩
      ∧ ((s.sc.stage = .playing ∨ s.sc.stage = .paused) → (t.mu.window = none ↔ t.vc.live.hm = 0))
      ∧ (s.sc.stage ≠ .playing → s.sc.stage ≠ .paused →
          t.mu.window = if s.sc.stage = .ending then s.mu.window else none)
      ∧ { t.vc with live := s.vc.live, picture := s.vc.picture } = s.vc
      ∧ { t.ps.profile with staged := s.ps.profile.staged } = s.ps.profile
      ∧ t.qm = s.qm ∧ t.sl = s.sl ∧ t.sc = s.sc ∧ t.pt = s.pt ∧ t.su = s.su ∧ t.lr.glyphs = s.lr.glyphs)
  ∧ (∀ s : State, s.inReset = false →
      (s.vc.lock = .lost → s.vc.internalTiming = true → exec .outputFrameStart s = .next (s.frameStart none))
      ∧ ((s.vc.lock = .locked ∨ s.vc.internalTiming = false) → exec .outputFrameStart s = .next s))
  ∧ ∀ (s t : State) (size : Option (Nat × Nat)) (w h : Nat), s.settingsInRange →
      (w, h) = size.getD (s.vc.width, s.vc.height) → 360 ≤ h → t = s.frameStart size →
      t.vc.width = w ∧ t.vc.height = h ∧ t.vc.live = t.ps.profile.staged
      ∧ t.vc.live
          = { s.ps.profile.staged with
              hl := min s.ps.profile.staged.hl (h - s.ps.profile.staged.ht - s.ps.profile.staged.hm) }
      ∧ t.vc.live.ht + t.vc.live.hl + t.vc.live.hm ≤ h
      ∧ (∀ src, t.port src
          = { s.port src with
              events :=
                (s.port src).events
                  ||| (if h < s.ps.profile.staged.ht + s.ps.profile.staged.hl + s.ps.profile.staged.hm then
                    Event.geometryClamped.bit else 0#12) })
      ∧ t.ports.transaction = s.ports.transaction ∧ t.ports.miso = s.ports.miso
      ∧ t.vc.picture = some ⟨t.tickerDrawing, t.lyricDrawing, t.meterDrawing⟩
      ∧ ((s.sc.stage = .playing ∨ s.sc.stage = .paused) →
          t.mu.window = if t.vc.live.hm = 0 then none else some t.buildMeter)
      ∧ (s.sc.stage ≠ .playing → s.sc.stage ≠ .paused →
          t.mu.window = if s.sc.stage = .ending then s.mu.window else none)
      ∧ { t.vc with width := s.vc.width, height := s.vc.height, live := s.vc.live, picture := s.vc.picture } = s.vc
      ∧ { t.ps with profile := s.ps.profile } = s.ps
      ∧ { t.ps.profile with staged := s.ps.profile.staged } = s.ps.profile
      ∧ t.qm = s.qm ∧ t.sl = s.sl ∧ t.sc = s.sc ∧ t.pt = s.pt ∧ t.su = s.su ∧ t.tu = s.tickerFrame.tu
      ∧ t.lr.glyphs = s.lr.glyphs ∧ t.pending = s.pending ∧ t.inReset = s.inReset

/-- The ticker's work at a frame start: rebuilt where marked or the count changed, then moved on by the speed within its
cycle; an output frame start does exactly that to it (R134, R135, R137). A rebuild's text is the tickets, titles and singers of
the first entries that are CUED or WAITING, three spaces apart, or the idle text (R134). -/
def Obligations.TickerMovesOn : Prop :=
  (∀ (s : State) (built : TickerUnit),
    built =
      (if s.tu.mark = true ∨ s.ps.profile.tickerCount ≠ s.tu.builtCount then
        s.tu.rebuild s.qm s.lr.glyphs s.ps.profile.tickerCount
      else s.tu) →
    s.tickerFrame.tu
        = { built with
            offset :=
              if built.advances.sum = 0 then 0 else (built.offset + s.ps.profile.tickerSpeed) % built.advances.sum }
      ∧ s.tickerFrame.withTu s.tu = s
      ∧ (s.tickerFrame.tu.offset < s.tickerFrame.tu.advances.sum ∨ s.tickerFrame.tu.offset = 0)
      ∧ (s.ps.profile.tickerCount ≠ s.tu.builtCount →
          s.tickerFrame.tu.builtCount = s.ps.profile.tickerCount ∧ s.tickerFrame.tu.mark = false))
  ∧ (∀ s : State, s.inReset = false → s.vc.lock = .lost → s.vc.internalTiming = true →
      ∃ t, exec .outputFrameStart s = .next t ∧ t.tu = s.tickerFrame.tu)
  ∧ (∀ (s : State) (size : Option (Nat × Nat)), (s.frameStart size).tu = s.tickerFrame.tu)
  ∧ (∀ (u : TickerUnit) (q : QueueManager) (table : List GlyphPlace) (count : Nat) (taken : List Entry)
      (text cycle advances : List Nat),
      taken = (q.queue.filter (fun e => e.state == .cued || e.state == .waiting)).take count →
      text =
        (if taken = [] then u.idleText
        else
          List.intercalate [32, 32, 32]
            (taken.map (fun e =>
              decimalCodes e.ticket ++ [32] ++ (if e.title = [] then decimalCodes e.song else e.title)
                ++ (match e.singer.bind q.singerAt with | some g => 32 :: g.name | none => [])))) →
      cycle = (if text = [] then [] else text ++ [32, 32, 32]) →
      advances = cycle.map (fun code => ((glyphAt table code).map (fun g => g.advance)).getD 16) →
      u.rebuild q table count
        = { text := text
            advances := advances
            offset := if advances.sum = 0 then 0 else u.offset % advances.sum
            builtCount := count
            mark := false
            idleText := u.idleText })
  ∧ ∀ n : Nat, n < 10 ^ 20 →
      decimalCodes n = if n = 0 then [48] else ((Nat.digits 10 n).reverse).map (fun d => 48 + d)

/-- What an input frame start and the loss timer do to the lock: a valid frame start regains or keeps it with 80 ms, an
invalid one leaves it, and the expiry loses it (R147 to R150; the rows as whole events are the model's reading, entries 4
and 11). The frame it closes has its first line's pixels and its line count as its size, and is in range by R147's test: 80 ms
or less, width 640 to 1280, height 360 to 720, every line as long as the first (with no line the width is 0, entry 46, the
model's choice). In LOCKED every input frame start, valid or not, is an output frame start, and so are a regain and the loss
(R148 to R150). -/
def Obligations.LockFollowsTheInput : Prop :=
  (∀ s : State, s.inReset = false →
    (∀ (lines : List Nat) (closed : Option MeasuredSize),
      closed = s.vc.measurement.map (fun m => (lines.foldl Measurement.line m).close) →
      ∃ t, exec (.inputFrameStart lines) s = .next t
        ∧ t.vc.measurement = some ⟨0, 0, 0, true⟩
        ∧ (∀ m, closed = some m → t.vc.lastMeasured = some m)
        ∧ (closed = none → t.vc.lastMeasured = s.vc.lastMeasured)
        ∧ (∀ m, closed = some m → m.inRange = true →
            t.vc.lock = .locked ∧ t.vc.lossTimer = some 80 ∧ t.vc.width = m.width ∧ t.vc.height = m.height
              ∧ (s.vc.lock = .lost →
                  t.vc.everLocked = true ∧ t.vc.internalTiming = false
                    ∧ ∀ src, (t.port src).events &&& Event.videoRegained.bit ≠ 0#12))
        ∧ ((∀ m, closed = some m → m.inRange = false) →
            t.vc.lock = s.vc.lock ∧ t.vc.lossTimer = s.vc.lossTimer ∧ t.vc.width = s.vc.width
              ∧ t.vc.height = s.vc.height ∧ t.vc.everLocked = s.vc.everLocked
              ∧ (s.vc.lock = .lost → t.ports = s.ports ∧ t.vc.picture = s.vc.picture ∧ t.lr = s.lr ∧ t.tu = s.tu)))
    ∧ (∀ (lines : List Nat) (closed : Option MeasuredSize) (u : State),
        closed = s.vc.measurement.map (fun m => (lines.foldl Measurement.line m).close) →
        u = s.withVc { s.vc with measurement := some ⟨0, 0, 0, true⟩, lastMeasured := closed.or s.vc.lastMeasured } →
        (∀ m, closed = some m → m.inRange = true →
          (s.vc.lock = .locked →
            exec (.inputFrameStart lines) s
              = .next ((u.withVc { u.vc with lossTimer := some 80 }).frameStart (some (m.width, m.height))))
          ∧ (s.vc.lock = .lost →
              exec (.inputFrameStart lines) s
                = .next (((u.withVc
                    { u.vc with lock := .locked, internalTiming := false, lossTimer := some 80, everLocked := true
                    }).raiseAll .videoRegained).frameStart (some (m.width, m.height)))))
        ∧ ((∀ m, closed = some m → m.inRange = false) →
            (s.vc.lock = .locked → exec (.inputFrameStart lines) s = .next (u.frameStart none))
            ∧ (s.vc.lock = .lost → exec (.inputFrameStart lines) s = .next u)))
    ∧ (∀ u : State, s.vc.lock = .locked → s.vc.lossTimer = some 1 → u = s.scMillisecond →
        exec .lossTimerExpiry s
            = .next (((u.withVc
                { s.vc with
                  measurement := s.vc.measurement.map (fun m => { m with elapsed := m.elapsed + 1 })
                  lock := .lost
                  lossTimer := none
                  internalTiming := true }).raiseAll .videoLost).frameStart none)
          ∧ u.vc = s.vc ∧ u.pt = s.pt ∧ u.sl = s.sl ∧ u.ps = s.ps
          ∧ (s.sc.stage ≠ .playing → s.sc.stage ≠ .result → u = s))
    ∧ (s.vc.lock = .locked → s.vc.lossTimer = some 1 →
        ∃ t, exec .lossTimerExpiry s = .next t ∧ exec .timebaseMillisecond s = .next t
          ∧ t.vc.lock = .lost ∧ t.vc.lossTimer = none ∧ t.vc.internalTiming = true
          ∧ t.vc.width = s.vc.width ∧ t.vc.height = s.vc.height
          ∧ ∀ src, (t.port src).events &&& Event.videoLost.bit ≠ 0#12)
    ∧ (s.vc.lock = .locked → ∀ n, s.vc.lossTimer = some n → 1 < n →
        exec .lossTimerExpiry s = .next s
          ∧ ∃ t, exec .timebaseMillisecond s = .next t ∧ t.vc.lock = .locked ∧ t.vc.lossTimer = some (n - 1))
    ∧ ∃ t, exec .timebaseMillisecond s = .next t
        ∧ t.vc.measurement = s.vc.measurement.map (fun m => { m with elapsed := m.elapsed + 1 }))
  ∧ ∀ (m : Measurement) (lines : List Nat) (width : Nat) (closed : MeasuredSize),
      width = (if m.lines = 0 then lines.headD m.firstLine else m.firstLine) →
      closed = (lines.foldl Measurement.line m).close →
      closed.width = width ∧ closed.height = m.lines + lines.length
        ∧ (closed.inRange = true ↔
            m.elapsed ≤ 80 ∧ 640 ≤ width ∧ width ≤ 1280 ∧ 360 ≤ m.lines + lines.length ∧ m.lines + lines.length ≤ 720
              ∧ m.uniform = true ∧ ∀ pixels ∈ lines, pixels = width)

/-- The blend of a component is the nearest of the weighted sum, halves up, between the two values, exact at the alphas
16 and 0 (R155). The output is W by H: nothing is shown outside it, the input pixel or the flat background where there is no
overlay, and the background at every box pixel while the lock is lost (R151). A line of the ticker, lyric or meter band takes
that zone's drawing, an overlay pixel blended at the zone's glyph alpha and a box pixel at its box alpha with the background,
and a line of the clear band takes none (R152, R155). -/
def Obligations.BlendIsExactAtTheEnds : Prop :=
  (∀ alpha overlay video : Nat, alpha ≤ 16 →
    16 * blendComponent alpha overlay video ≤ alpha * overlay + (16 - alpha) * video + 8
      ∧ alpha * overlay + (16 - alpha) * video + 8 < 16 * blendComponent alpha overlay video + 16
      ∧ min overlay video ≤ blendComponent alpha overlay video
      ∧ blendComponent alpha overlay video ≤ max overlay video
      ∧ blendComponent 16 overlay video = overlay ∧ blendComponent 0 overlay video = video)
  ∧ (∀ (s : State) (input : Option Rgb) (line col : Nat),
      ((s.vc.height ≤ line ∨ s.vc.width ≤ col) → s.outputPixel input line col = none)
      ∧ (line < s.vc.height → col < s.vc.width →
          ((∀ (p : Picture), s.vc.picture = some p → s.vc.zoneAt p line = none) →
            s.outputPixel input line col
              = some (if s.vc.lock = .locked then input.getD s.vc.live.background else s.vc.live.background))
          ∧ (s.vc.lock = .lost → s.settingsInRange →
              (∀ (p : Picture) (z : ZoneBlend), s.vc.picture = some p → s.vc.zoneAt p line = some z →
                z.drawing.colourAt line col = none) →
              s.outputPixel input line col = some s.vc.live.background)))
  ∧ ∀ (s : State) (p : Picture) (input : Option Rgb) (line col : Nat) (video : Rgb)
      (mixed : ZoneDrawing → Nat → Nat → Rgb),
      s.vc.picture = some p → line < s.vc.height → col < s.vc.width →
      s.vc.live.ht + s.vc.live.hl + s.vc.live.hm ≤ s.vc.height →
      video = (if s.vc.lock = .locked then input.getD s.vc.live.background else s.vc.live.background) →
      (∀ z glyphAlpha boxAlpha,
        (∀ c, z.colourAt line col = some c →
          mixed z glyphAlpha boxAlpha
            = ⟨(glyphAlpha * c.red + (16 - glyphAlpha) * video.red + 8) / 16,
                (glyphAlpha * c.green + (16 - glyphAlpha) * video.green + 8) / 16,
                (glyphAlpha * c.blue + (16 - glyphAlpha) * video.blue + 8) / 16⟩)
        ∧ (z.colourAt line col = none →
            mixed z glyphAlpha boxAlpha
              = ⟨(boxAlpha * s.vc.live.background.red + (16 - boxAlpha) * video.red + 8) / 16,
                  (boxAlpha * s.vc.live.background.green + (16 - boxAlpha) * video.green + 8) / 16,
                  (boxAlpha * s.vc.live.background.blue + (16 - boxAlpha) * video.blue + 8) / 16⟩)) →
      (line < s.vc.live.ht →
        s.outputPixel input line col = some (mixed p.ticker s.vc.live.tickerGlyph s.vc.live.tickerBox))
      ∧ (s.vc.live.ht ≤ line → line + s.vc.live.hl + s.vc.live.hm < s.vc.height →
          s.outputPixel input line col = some video)
      ∧ (s.vc.height ≤ line + s.vc.live.hl + s.vc.live.hm → line + s.vc.live.hm < s.vc.height →
          s.outputPixel input line col = some (mixed p.lyric s.vc.live.lyricGlyph s.vc.live.lyricBox))
      ∧ (s.vc.height ≤ line + s.vc.live.hm →
          s.outputPixel input line col = some (mixed p.meter s.vc.live.meterGlyph s.vc.live.meterBox))

/-! ### The ports, the events and the profile (chapters 9 to 11) -/

/-- A Player read chooses the reply that stands first as its select byte completes, shifts it out and then 0xFF; it is delivered
when its last byte has been clocked, kept whole where chip select rises before, and stays chosen while chip select stays low; a
transaction cut into rows does what it does in one (R157, R158, R159). On a panel line a break discards a frame half received,
bytes sent leave the rest to send, a transmitter that has sent its reply delivers it and begins the next, and a wrong check byte
is refused BAD-CHECK (R160 to R163; entries 13, 14 and 37 are the model's choices). REPLY-READY is high exactly while either
place of the Player port holds a reply, so from the answer or refusal that fills one until none stands first, and low after
reset (R159). -/
def Obligations.RepliesAreDelivered : Prop :=
  (∀ (s : State) (clocked : Nat) (rise : Option (List Bool)), s.inReset = false → s.ports.transaction = none →
    (s.ports.player.first = none →
      exec (.playerReadTransaction clocked rise) s
        = .next (s.withPorts
            { s.ports with
              miso := List.replicate clocked 0xFF#8
              transaction := if rise = none then some .spent else none }))
    ∧ ∀ (pl : Place) (r : Reply), s.ports.player.first = some pl → s.ports.player.place pl = some r →
        (clocked < r.bytes.length →
          exec (.playerReadTransaction clocked rise) s
            = .next (s.withPorts
                { s.ports with
                  miso := r.bytes.take clocked
                  transaction := if rise = none then some (.reading pl (r.bytes.drop clocked)) else none }))
        ∧ (r.bytes.length ≤ clocked →
            ∃ t, exec (.playerReadTransaction clocked rise) s = .next t
              ∧ t.ports.miso = r.bytes ++ List.replicate (clocked - r.bytes.length) 0xFF#8
              ∧ t.ports.transaction = (if rise = none then some .spent else none)
              ∧ (pl = .reply →
                  t.ports.player
                    = { s.ports.player with
                        condition := .free
                        replyPlace := none
                        first := if s.ports.player.refusalPlace = none then none else some .refusal })
              ∧ (pl = .refusal →
                  t.ports.player
                    = { s.ports.player with
                        refusalPlace := none
                        first := if s.ports.player.replyPlace = none then none else some .reply })
              ∧ t.ports.panel1 = s.ports.panel1 ∧ t.ports.panel2 = s.ports.panel2
              ∧ t.ports.panel3 = s.ports.panel3 ∧ t.withPorts s.ports = s))
  ∧ (∀ (s t : State) (taken mosi : List Byte) (m n : Nat) (rise : Option (List Bool)), s.inReset = false →
      s.ports.transaction = none →
      (exec (.playerWriteTransaction (0x3C#8 :: taken) none) s = .next t →
        t.ports.transaction = some (.writing taken)
          ∧ exec (.playerWriteTransaction mosi rise) t
            = exec (.playerWriteTransaction (0x3C#8 :: taken ++ mosi) rise) s)
      ∧ (exec (.playerReadTransaction m none) s = .next t →
          exec (.playerReadTransaction n rise) t = exec (.playerReadTransaction (m + n) rise) s))
  ∧ (∀ (panel : Panel) (s : State), s.inReset = false →
    exec (.panelLineBreak panel) s
        = .next (s.modifyPort panel.source (fun p => { p with receiver := .hunting }))
    ∧ ((s.port panel.source).transmitter = none → ∀ n, exec (.panelReplyDelivery ⟨panel, n⟩) s = .next s)
    ∧ (∀ (pl : Place) (left : List Byte) (n : Nat), (s.port panel.source).consistent →
        (s.port panel.source).transmitter = some ⟨pl, left⟩ →
        (n < left.length →
          exec (.panelReplyDelivery ⟨panel, n⟩) s
            = .next (s.modifyPort panel.source
                (fun p => { p with transmitter := some ⟨pl, left.drop n⟩, sent := left.take n })))
        ∧ (left.length ≤ n →
            ∃ t, exec (.panelReplyDelivery ⟨panel, n⟩) s = .next t
              ∧ (t.port panel.source).place pl = none
              ∧ (t.port panel.source).place pl.other = (s.port panel.source).place pl.other
              ∧ (t.port panel.source).first = (if (s.port panel.source).place pl.other = none then none else some pl.other)
              ∧ (pl = .reply → (t.port panel.source).condition = .free)
              ∧ (pl = .refusal → (t.port panel.source).condition = (s.port panel.source).condition)
              ∧ ((s.port panel.source).place pl.other = none → (t.port panel.source).transmitter = none)
              ∧ (∀ r, (s.port panel.source).place pl.other = some r →
                  (t.port panel.source).transmitter = some ⟨pl.other, panelWire r.bytes⟩)
              ∧ (t.port panel.source).sent = left
              ∧ (t.port panel.source).receiver = (s.port panel.source).receiver
              ∧ (t.port panel.source).rights = (s.port panel.source).rights
              ∧ (t.port panel.source).events = (s.port panel.source).events
              ∧ (t.port panel.source).mask = (s.port panel.source).mask
              ∧ (∀ o, o ≠ panel.source → t.port o = s.port o)
              ∧ t.ports.transaction = s.ports.transaction ∧ t.ports.miso = s.ports.miso ∧ t.withPorts s.ports = s))
    ∧ ∀ (code check : Byte) (params : List Byte), (s.port panel.source).receiver = .hunting →
        params.length ≤ 250 → crc8 (code :: BitVec.ofNat 8 params.length :: params) ≠ check →
        exec (.panelFrame panel (0xA5#8 :: code :: BitVec.ofNat 8 params.length :: params ++ [check])) s
          = .next (s.refuse panel.source code .badCheck))
  ∧ (∀ (s : State) (c : Command) (a : Answer) (code : Byte) (why : ReplyCode),
      (s.replyReady = true ↔ s.ports.player.replyPlace ≠ none ∨ s.ports.player.refusalPlace ≠ none)
      ∧ (s.portsConsistent → (s.replyReady = true ↔ s.ports.player.first ≠ none))
      ∧ (s.answer .player c a).replyReady = true ∧ (s.refuse .player code why).replyReady = true)
  ∧ ∀ copy : Option Profile, (State.atEndOfReset copy).replyReady = false

/-- RIGHTS, EVENTS and MASK, and the attention line: high outside reset exactly while the set and the mask share an
event (R166, R173, R174, R175). -/
def Obligations.PortSettings : Prop :=
  ∀ (src : Source) (s : State),
    (s.accepts src .rights →
      (∀ (n : Nat) (m : Option Byte), (n = 0 ∨ 3 < n) →
        exec (.rights src n m) s = .next ((s.route src .rights).answer src .rights ⟨.badValue, {}, []⟩))
      ∧ ∀ (panel : Panel) (n : Nat), n = sourceNumber panel.source →
          exec (.rights src n none) s
              = .next ((s.route src .rights).answer src .rights
                  ⟨.ok, {}, be1 n ++ be1 (s.port panel.source).rights.toNat⟩)
          ∧ ∀ m : Byte,
              (16 ≤ m.toNat →
                exec (.rights src n (some m)) s
                  = .next ((s.route src .rights).answer src .rights ⟨.badValue, {}, []⟩))
              ∧ (m.toNat < 16 →
                  exec (.rights src n (some m)) s
                    = .next (((s.route src .rights).modifyPort panel.source
                        (fun p => { p with rights := BitVec.ofNat 4 m.toNat })).answer src .rights
                        ⟨.ok, {}, be1 n ++ [m]⟩)))
    ∧ (s.accepts src .events →
        exec (.events src) s
          = .next (((s.route src .events).modifyPort src (fun p => { p with events := 0#12 })).answer src .events
              ⟨.ok, {}, be2 (s.port src).events.toNat⟩))
    ∧ (s.accepts src .mask → ∀ m : BitVec 16,
        exec (.mask src m) s
          = .next (((s.route src .mask).modifyPort src (fun p => { p with mask := m.setWidth 12 })).answer src .mask
              ⟨.ok, {}, be2 (m.setWidth 12).toNat⟩))
    ∧ (s.attention src = true ↔ s.inReset = false ∧ (s.port src).events &&& (s.port src).mask ≠ 0#12)

/-- PROFILE-SET and PROFILE-GET: BAD-VALUE for a number the table does not have; otherwise the field takes the clamped
value, the same value is read back, and every other field stays (R178, R179). The numbers, the ranges and the clamps across a
gap are the table's. -/
def Obligations.ProfileFieldsAreSet : Prop :=
  (∀ (src : Source) (s : State) (n : Nat) (v : Int),
    (fieldOf n = none →
      (s.accepts src .profileSet →
        exec (.profileSet src n v) s
          = .next ((s.route src .profileSet).answer src .profileSet ⟨.badValue, {}, []⟩))
      ∧ (s.accepts src .profileGet →
          exec (.profileGet src n) s
            = .next ((s.route src .profileGet).answer src .profileGet ⟨.badValue, {}, []⟩)))
    ∧ ∀ f, fieldOf n = some f →
        (s.accepts src .profileGet →
          exec (.profileGet src n) s
            = .next ((s.route src .profileGet).answer src .profileGet
                ⟨.ok, {}, be1 n ++ encProfileValue (s.ps.profile.get f)⟩))
        ∧ (s.accepts src .profileSet →
            ∃ p : Profile,
              exec (.profileSet src n v) s
                = .next (((s.route src .profileSet).withPs { s.ps with profile := p }).answer src .profileSet
                    ⟨.ok, { clamped := f.range.clamp v != v }, be1 n ++ encProfileValue (f.range.clamp v)⟩)
              ∧ p.get f = f.range.clamp v ∧ ∀ g, g ≠ f → p.get g = s.ps.profile.get g))
  ∧ (∀ n : Nat, (fieldOf n).isSome = true ↔
      n ≤ 0x02 ∨ (0x08 ≤ n ∧ n ≤ 0x0D) ∨ (0x10 ≤ n ∧ n ≤ 0x12) ∨ (0x20 ≤ n ∧ n ≤ 0x3A) ∨ (0x40 ≤ n ∧ n ≤ 0x4E)
        ∨ (0x50 ≤ n ∧ n ≤ 0x55) ∨ (0x58 ≤ n ∧ n ≤ 0x5A) ∨ (0x60 ≤ n ∧ n ≤ 0x63))
  ∧ (∀ (m n : Nat) (f : ProfileField), fieldOf m = some f → fieldOf n = some f → m = n)
  ∧ (∀ (p : Profile) (v : Int),
      (∀ x ∈ [((0x00 : Nat), (20 : Int), (200 : Int), (p.tolerance : Int)), (0x01, 0, 1, if p.fold = true then 1 else 0),
          (0x02, -60, -20, p.voiceThreshold), (0x08, 500, 4000, (p.lead : Int)), (0x09, 0, 2000, (p.tail : Int)),
          (0x0A, 1, 4, (p.staged.rows : Int)), (0x0B, 0, 16, (p.staged.rowGap : Int)),
          (0x0C, 0, 128, (p.staged.margin : Int)), (0x0D, 0, 15, (p.staged.scrollFrames : Int)),
          (0x11, 0, 720, (p.staged.hl : Int)), (0x28, 0, 255, (p.staged.setP1.outline.blue : Int)),
          (0x2D, 0, 255, (p.staged.setP2.sung.green : Int)), (0x32, 0, 255, (p.staged.setBoth.unsung.red : Int)),
          (0x40, 0, 255, (p.staged.perfect.red : Int)), (0x44, 0, 255, (p.staged.good.green : Int)),
          (0x48, 0, 255, (p.staged.fair.blue : Int)), (0x49, 0, 255, (p.staged.miss.red : Int)),
          (0x4D, 0, 255, (p.staged.background.green : Int)), (0x50, 0, 16, (p.staged.tickerGlyph : Int)),
          (0x51, 0, 16, (p.staged.tickerBox : Int)), (0x52, 0, 16, (p.staged.lyricGlyph : Int)),
          (0x53, 0, 16, (p.staged.lyricBox : Int)), (0x54, 0, 16, (p.staged.meterGlyph : Int)),
          (0x55, 0, 16, (p.staged.meterBox : Int)), (0x58, 1, 5, (p.tickerCount : Int)),
          (0x59, 1, 8, (p.tickerSpeed : Int)), (0x5A, 1500, 6000, (p.future : Int)),
          (0x61, 20, 200, (p.syncWindow : Int)), (0x62, 0, 30000, (p.resultHold : Int))],
        ∃ f, fieldOf x.1 = some f ∧ f.range.clamp v = max x.2.1 (min x.2.2.1 v) ∧ p.get f = x.2.2.2)
      ∧ (∀ n f, (0x20 ≤ n ∧ n ≤ 0x3A) ∨ (0x40 ≤ n ∧ n ≤ 0x4E) → fieldOf n = some f →
          f.range.clamp v = max 0 (min 255 v))
      ∧ (∃ f, fieldOf 0x10 = some f ∧ p.get f = p.staged.ht
          ∧ f.range.clamp v = if v ≤ 11 then 0 else if v ≤ 24 then 24 else min 64 v)
      ∧ (∃ f, fieldOf 0x12 = some f ∧ p.get f = p.staged.hm
          ∧ f.range.clamp v = if v ≤ 23 then 0 else if v ≤ 48 then 48 else min 160 v)
      ∧ (∃ f, fieldOf 0x60 = some f ∧ p.get f = p.promote
          ∧ f.range.clamp v = if v ≤ 0 then 0 else if v ≤ 2 then 2 else min 60 v)
      ∧ ∃ f, fieldOf 0x63 = some f ∧ p.get f = p.defaultRights.toNat ∧ f.range.clamp v = v % 16)
  ∧ ∀ (p : Profile) (k : Nat) (c : Rgb),
      (([p.staged.setP1.unsung, p.staged.setP1.sung, p.staged.setP1.outline, p.staged.setP2.unsung,
          p.staged.setP2.sung, p.staged.setP2.outline, p.staged.setBoth.unsung, p.staged.setBoth.sung,
          p.staged.setBoth.outline] : List Rgb)[k]? = some c →
        (∃ f, fieldOf (0x20 + 3 * k) = some f ∧ p.get f = c.red)
          ∧ (∃ f, fieldOf (0x21 + 3 * k) = some f ∧ p.get f = c.green)
          ∧ ∃ f, fieldOf (0x22 + 3 * k) = some f ∧ p.get f = c.blue)
      ∧ (([p.staged.perfect, p.staged.good, p.staged.fair, p.staged.miss, p.staged.background] : List Rgb)[k]? = some c →
          (∃ f, fieldOf (0x40 + 3 * k) = some f ∧ p.get f = c.red)
            ∧ (∃ f, fieldOf (0x41 + 3 * k) = some f ∧ p.get f = c.green)
            ∧ ∃ f, fieldOf (0x42 + 3 * k) = some f ∧ p.get f = c.blue)

/-- PROFILE-SAVE copies the live profile and invalidates the store; its end keeps the copy and clears the flag, or
leaves the store invalid and answers SAVE-FAILED (R180; the comparison's outcome is the row's operand, entry 35). -/
def Obligations.ProfileIsSaved : Prop :=
  (∀ (src : Source) (s : State), s.accepts src .profileSave →
    exec (.profileSave src) s
      = .next ((s.route src .profileSave).withPs
          { s.ps with saving := some s.ps.profile, nonvolatile := none }))
  ∧ ∀ (s : State) (copy : Profile), s.inReset = false → s.ps.saving = some copy →
      exec (.profileSaveEnd true) s
          = .next ((s.withPs { s.ps with saving := none, nonvolatile := some copy, defaulted := false }).answer .player
              .profileSave ⟨.ok, {}, []⟩)
      ∧ exec (.profileSaveEnd false) s
          = .next ((s.withPs { s.ps with saving := none, nonvolatile := none }).answer .player .profileSave
              ⟨.saveFailed, {}, []⟩)
end

