-- ==== Sys2Proof/Laws/State.lean ====
section
/-! SUPPORT. One lemma per field per update of the state, and how updates of one block follow each other. -/

namespace Sys2Proof.Machine.State

/-! ### withPending -/

@[simp] theorem withPending_pending (s : State) (x : List Instr) : (s.withPending x).pending = x := rfl
@[simp] theorem withPending_inReset (s : State) (x : List Instr) : (s.withPending x).inReset = s.inReset := rfl
@[simp] theorem withPending_ports (s : State) (x : List Instr) : (s.withPending x).ports = s.ports := rfl
@[simp] theorem withPending_qm (s : State) (x : List Instr) : (s.withPending x).qm = s.qm := rfl
@[simp] theorem withPending_sl (s : State) (x : List Instr) : (s.withPending x).sl = s.sl := rfl
@[simp] theorem withPending_sc (s : State) (x : List Instr) : (s.withPending x).sc = s.sc := rfl
@[simp] theorem withPending_pt (s : State) (x : List Instr) : (s.withPending x).pt = s.pt := rfl
@[simp] theorem withPending_su (s : State) (x : List Instr) : (s.withPending x).su = s.su := rfl
@[simp] theorem withPending_lr (s : State) (x : List Instr) : (s.withPending x).lr = s.lr := rfl
@[simp] theorem withPending_tu (s : State) (x : List Instr) : (s.withPending x).tu = s.tu := rfl
@[simp] theorem withPending_mu (s : State) (x : List Instr) : (s.withPending x).mu = s.mu := rfl
@[simp] theorem withPending_vc (s : State) (x : List Instr) : (s.withPending x).vc = s.vc := rfl
@[simp] theorem withPending_ps (s : State) (x : List Instr) : (s.withPending x).ps = s.ps := rfl
@[simp] theorem withPending_self (s : State) : s.withPending s.pending = s := rfl
@[simp] theorem withPending_withPending (s : State) (x y : List Instr) : (s.withPending x).withPending y = s.withPending y := rfl

/-! ### withInReset -/

@[simp] theorem withInReset_pending (s : State) (x : Bool) : (s.withInReset x).pending = s.pending := rfl
@[simp] theorem withInReset_inReset (s : State) (x : Bool) : (s.withInReset x).inReset = x := rfl
@[simp] theorem withInReset_ports (s : State) (x : Bool) : (s.withInReset x).ports = s.ports := rfl
@[simp] theorem withInReset_qm (s : State) (x : Bool) : (s.withInReset x).qm = s.qm := rfl
@[simp] theorem withInReset_sl (s : State) (x : Bool) : (s.withInReset x).sl = s.sl := rfl
@[simp] theorem withInReset_sc (s : State) (x : Bool) : (s.withInReset x).sc = s.sc := rfl
@[simp] theorem withInReset_pt (s : State) (x : Bool) : (s.withInReset x).pt = s.pt := rfl
@[simp] theorem withInReset_su (s : State) (x : Bool) : (s.withInReset x).su = s.su := rfl
@[simp] theorem withInReset_lr (s : State) (x : Bool) : (s.withInReset x).lr = s.lr := rfl
@[simp] theorem withInReset_tu (s : State) (x : Bool) : (s.withInReset x).tu = s.tu := rfl
@[simp] theorem withInReset_mu (s : State) (x : Bool) : (s.withInReset x).mu = s.mu := rfl
@[simp] theorem withInReset_vc (s : State) (x : Bool) : (s.withInReset x).vc = s.vc := rfl
@[simp] theorem withInReset_ps (s : State) (x : Bool) : (s.withInReset x).ps = s.ps := rfl
@[simp] theorem withInReset_self (s : State) : s.withInReset s.inReset = s := rfl
@[simp] theorem withInReset_withInReset (s : State) (x y : Bool) : (s.withInReset x).withInReset y = s.withInReset y := rfl

/-! ### withPorts -/

@[simp] theorem withPorts_pending (s : State) (x : PortInterface) : (s.withPorts x).pending = s.pending := rfl
@[simp] theorem withPorts_inReset (s : State) (x : PortInterface) : (s.withPorts x).inReset = s.inReset := rfl
@[simp] theorem withPorts_ports (s : State) (x : PortInterface) : (s.withPorts x).ports = x := rfl
@[simp] theorem withPorts_qm (s : State) (x : PortInterface) : (s.withPorts x).qm = s.qm := rfl
@[simp] theorem withPorts_sl (s : State) (x : PortInterface) : (s.withPorts x).sl = s.sl := rfl
@[simp] theorem withPorts_sc (s : State) (x : PortInterface) : (s.withPorts x).sc = s.sc := rfl
@[simp] theorem withPorts_pt (s : State) (x : PortInterface) : (s.withPorts x).pt = s.pt := rfl
@[simp] theorem withPorts_su (s : State) (x : PortInterface) : (s.withPorts x).su = s.su := rfl
@[simp] theorem withPorts_lr (s : State) (x : PortInterface) : (s.withPorts x).lr = s.lr := rfl
@[simp] theorem withPorts_tu (s : State) (x : PortInterface) : (s.withPorts x).tu = s.tu := rfl
@[simp] theorem withPorts_mu (s : State) (x : PortInterface) : (s.withPorts x).mu = s.mu := rfl
@[simp] theorem withPorts_vc (s : State) (x : PortInterface) : (s.withPorts x).vc = s.vc := rfl
@[simp] theorem withPorts_ps (s : State) (x : PortInterface) : (s.withPorts x).ps = s.ps := rfl
@[simp] theorem withPorts_self (s : State) : s.withPorts s.ports = s := rfl
@[simp] theorem withPorts_withPorts (s : State) (x y : PortInterface) : (s.withPorts x).withPorts y = s.withPorts y := rfl

/-! ### withQm -/

@[simp] theorem withQm_pending (s : State) (x : QueueManager) : (s.withQm x).pending = s.pending := rfl
@[simp] theorem withQm_inReset (s : State) (x : QueueManager) : (s.withQm x).inReset = s.inReset := rfl
@[simp] theorem withQm_ports (s : State) (x : QueueManager) : (s.withQm x).ports = s.ports := rfl
@[simp] theorem withQm_qm (s : State) (x : QueueManager) : (s.withQm x).qm = x := rfl
@[simp] theorem withQm_sl (s : State) (x : QueueManager) : (s.withQm x).sl = s.sl := rfl
@[simp] theorem withQm_sc (s : State) (x : QueueManager) : (s.withQm x).sc = s.sc := rfl
@[simp] theorem withQm_pt (s : State) (x : QueueManager) : (s.withQm x).pt = s.pt := rfl
@[simp] theorem withQm_su (s : State) (x : QueueManager) : (s.withQm x).su = s.su := rfl
@[simp] theorem withQm_lr (s : State) (x : QueueManager) : (s.withQm x).lr = s.lr := rfl
@[simp] theorem withQm_tu (s : State) (x : QueueManager) : (s.withQm x).tu = s.tu := rfl
@[simp] theorem withQm_mu (s : State) (x : QueueManager) : (s.withQm x).mu = s.mu := rfl
@[simp] theorem withQm_vc (s : State) (x : QueueManager) : (s.withQm x).vc = s.vc := rfl
@[simp] theorem withQm_ps (s : State) (x : QueueManager) : (s.withQm x).ps = s.ps := rfl
@[simp] theorem withQm_self (s : State) : s.withQm s.qm = s := rfl
@[simp] theorem withQm_withQm (s : State) (x y : QueueManager) : (s.withQm x).withQm y = s.withQm y := rfl

/-! ### withSl -/

@[simp] theorem withSl_pending (s : State) (x : SongLoader) : (s.withSl x).pending = s.pending := rfl
@[simp] theorem withSl_inReset (s : State) (x : SongLoader) : (s.withSl x).inReset = s.inReset := rfl
@[simp] theorem withSl_ports (s : State) (x : SongLoader) : (s.withSl x).ports = s.ports := rfl
@[simp] theorem withSl_qm (s : State) (x : SongLoader) : (s.withSl x).qm = s.qm := rfl
@[simp] theorem withSl_sl (s : State) (x : SongLoader) : (s.withSl x).sl = x := rfl
@[simp] theorem withSl_sc (s : State) (x : SongLoader) : (s.withSl x).sc = s.sc := rfl
@[simp] theorem withSl_pt (s : State) (x : SongLoader) : (s.withSl x).pt = s.pt := rfl
@[simp] theorem withSl_su (s : State) (x : SongLoader) : (s.withSl x).su = s.su := rfl
@[simp] theorem withSl_lr (s : State) (x : SongLoader) : (s.withSl x).lr = s.lr := rfl
@[simp] theorem withSl_tu (s : State) (x : SongLoader) : (s.withSl x).tu = s.tu := rfl
@[simp] theorem withSl_mu (s : State) (x : SongLoader) : (s.withSl x).mu = s.mu := rfl
@[simp] theorem withSl_vc (s : State) (x : SongLoader) : (s.withSl x).vc = s.vc := rfl
@[simp] theorem withSl_ps (s : State) (x : SongLoader) : (s.withSl x).ps = s.ps := rfl
@[simp] theorem withSl_self (s : State) : s.withSl s.sl = s := rfl
@[simp] theorem withSl_withSl (s : State) (x y : SongLoader) : (s.withSl x).withSl y = s.withSl y := rfl

/-! ### withSc -/

@[simp] theorem withSc_pending (s : State) (x : StageController) : (s.withSc x).pending = s.pending := rfl
@[simp] theorem withSc_inReset (s : State) (x : StageController) : (s.withSc x).inReset = s.inReset := rfl
@[simp] theorem withSc_ports (s : State) (x : StageController) : (s.withSc x).ports = s.ports := rfl
@[simp] theorem withSc_qm (s : State) (x : StageController) : (s.withSc x).qm = s.qm := rfl
@[simp] theorem withSc_sl (s : State) (x : StageController) : (s.withSc x).sl = s.sl := rfl
@[simp] theorem withSc_sc (s : State) (x : StageController) : (s.withSc x).sc = x := rfl
@[simp] theorem withSc_pt (s : State) (x : StageController) : (s.withSc x).pt = s.pt := rfl
@[simp] theorem withSc_su (s : State) (x : StageController) : (s.withSc x).su = s.su := rfl
@[simp] theorem withSc_lr (s : State) (x : StageController) : (s.withSc x).lr = s.lr := rfl
@[simp] theorem withSc_tu (s : State) (x : StageController) : (s.withSc x).tu = s.tu := rfl
@[simp] theorem withSc_mu (s : State) (x : StageController) : (s.withSc x).mu = s.mu := rfl
@[simp] theorem withSc_vc (s : State) (x : StageController) : (s.withSc x).vc = s.vc := rfl
@[simp] theorem withSc_ps (s : State) (x : StageController) : (s.withSc x).ps = s.ps := rfl
@[simp] theorem withSc_self (s : State) : s.withSc s.sc = s := rfl
@[simp] theorem withSc_withSc (s : State) (x y : StageController) : (s.withSc x).withSc y = s.withSc y := rfl

/-! ### withPt -/

@[simp] theorem withPt_pending (s : State) (x : PitchTracker) : (s.withPt x).pending = s.pending := rfl
@[simp] theorem withPt_inReset (s : State) (x : PitchTracker) : (s.withPt x).inReset = s.inReset := rfl
@[simp] theorem withPt_ports (s : State) (x : PitchTracker) : (s.withPt x).ports = s.ports := rfl
@[simp] theorem withPt_qm (s : State) (x : PitchTracker) : (s.withPt x).qm = s.qm := rfl
@[simp] theorem withPt_sl (s : State) (x : PitchTracker) : (s.withPt x).sl = s.sl := rfl
@[simp] theorem withPt_sc (s : State) (x : PitchTracker) : (s.withPt x).sc = s.sc := rfl
@[simp] theorem withPt_pt (s : State) (x : PitchTracker) : (s.withPt x).pt = x := rfl
@[simp] theorem withPt_su (s : State) (x : PitchTracker) : (s.withPt x).su = s.su := rfl
@[simp] theorem withPt_lr (s : State) (x : PitchTracker) : (s.withPt x).lr = s.lr := rfl
@[simp] theorem withPt_tu (s : State) (x : PitchTracker) : (s.withPt x).tu = s.tu := rfl
@[simp] theorem withPt_mu (s : State) (x : PitchTracker) : (s.withPt x).mu = s.mu := rfl
@[simp] theorem withPt_vc (s : State) (x : PitchTracker) : (s.withPt x).vc = s.vc := rfl
@[simp] theorem withPt_ps (s : State) (x : PitchTracker) : (s.withPt x).ps = s.ps := rfl
@[simp] theorem withPt_self (s : State) : s.withPt s.pt = s := rfl
@[simp] theorem withPt_withPt (s : State) (x y : PitchTracker) : (s.withPt x).withPt y = s.withPt y := rfl

/-! ### withSu -/

@[simp] theorem withSu_pending (s : State) (x : ScoreUnit) : (s.withSu x).pending = s.pending := rfl
@[simp] theorem withSu_inReset (s : State) (x : ScoreUnit) : (s.withSu x).inReset = s.inReset := rfl
@[simp] theorem withSu_ports (s : State) (x : ScoreUnit) : (s.withSu x).ports = s.ports := rfl
@[simp] theorem withSu_qm (s : State) (x : ScoreUnit) : (s.withSu x).qm = s.qm := rfl
@[simp] theorem withSu_sl (s : State) (x : ScoreUnit) : (s.withSu x).sl = s.sl := rfl
@[simp] theorem withSu_sc (s : State) (x : ScoreUnit) : (s.withSu x).sc = s.sc := rfl
@[simp] theorem withSu_pt (s : State) (x : ScoreUnit) : (s.withSu x).pt = s.pt := rfl
@[simp] theorem withSu_su (s : State) (x : ScoreUnit) : (s.withSu x).su = x := rfl
@[simp] theorem withSu_lr (s : State) (x : ScoreUnit) : (s.withSu x).lr = s.lr := rfl
@[simp] theorem withSu_tu (s : State) (x : ScoreUnit) : (s.withSu x).tu = s.tu := rfl
@[simp] theorem withSu_mu (s : State) (x : ScoreUnit) : (s.withSu x).mu = s.mu := rfl
@[simp] theorem withSu_vc (s : State) (x : ScoreUnit) : (s.withSu x).vc = s.vc := rfl
@[simp] theorem withSu_ps (s : State) (x : ScoreUnit) : (s.withSu x).ps = s.ps := rfl
@[simp] theorem withSu_self (s : State) : s.withSu s.su = s := rfl
@[simp] theorem withSu_withSu (s : State) (x y : ScoreUnit) : (s.withSu x).withSu y = s.withSu y := rfl

/-! ### withLr -/

@[simp] theorem withLr_pending (s : State) (x : LyricRenderer) : (s.withLr x).pending = s.pending := rfl
@[simp] theorem withLr_inReset (s : State) (x : LyricRenderer) : (s.withLr x).inReset = s.inReset := rfl
@[simp] theorem withLr_ports (s : State) (x : LyricRenderer) : (s.withLr x).ports = s.ports := rfl
@[simp] theorem withLr_qm (s : State) (x : LyricRenderer) : (s.withLr x).qm = s.qm := rfl
@[simp] theorem withLr_sl (s : State) (x : LyricRenderer) : (s.withLr x).sl = s.sl := rfl
@[simp] theorem withLr_sc (s : State) (x : LyricRenderer) : (s.withLr x).sc = s.sc := rfl
@[simp] theorem withLr_pt (s : State) (x : LyricRenderer) : (s.withLr x).pt = s.pt := rfl
@[simp] theorem withLr_su (s : State) (x : LyricRenderer) : (s.withLr x).su = s.su := rfl
@[simp] theorem withLr_lr (s : State) (x : LyricRenderer) : (s.withLr x).lr = x := rfl
@[simp] theorem withLr_tu (s : State) (x : LyricRenderer) : (s.withLr x).tu = s.tu := rfl
@[simp] theorem withLr_mu (s : State) (x : LyricRenderer) : (s.withLr x).mu = s.mu := rfl
@[simp] theorem withLr_vc (s : State) (x : LyricRenderer) : (s.withLr x).vc = s.vc := rfl
@[simp] theorem withLr_ps (s : State) (x : LyricRenderer) : (s.withLr x).ps = s.ps := rfl
@[simp] theorem withLr_self (s : State) : s.withLr s.lr = s := rfl
@[simp] theorem withLr_withLr (s : State) (x y : LyricRenderer) : (s.withLr x).withLr y = s.withLr y := rfl

/-! ### withTu -/

@[simp] theorem withTu_pending (s : State) (x : TickerUnit) : (s.withTu x).pending = s.pending := rfl
@[simp] theorem withTu_inReset (s : State) (x : TickerUnit) : (s.withTu x).inReset = s.inReset := rfl
@[simp] theorem withTu_ports (s : State) (x : TickerUnit) : (s.withTu x).ports = s.ports := rfl
@[simp] theorem withTu_qm (s : State) (x : TickerUnit) : (s.withTu x).qm = s.qm := rfl
@[simp] theorem withTu_sl (s : State) (x : TickerUnit) : (s.withTu x).sl = s.sl := rfl
@[simp] theorem withTu_sc (s : State) (x : TickerUnit) : (s.withTu x).sc = s.sc := rfl
@[simp] theorem withTu_pt (s : State) (x : TickerUnit) : (s.withTu x).pt = s.pt := rfl
@[simp] theorem withTu_su (s : State) (x : TickerUnit) : (s.withTu x).su = s.su := rfl
@[simp] theorem withTu_lr (s : State) (x : TickerUnit) : (s.withTu x).lr = s.lr := rfl
@[simp] theorem withTu_tu (s : State) (x : TickerUnit) : (s.withTu x).tu = x := rfl
@[simp] theorem withTu_mu (s : State) (x : TickerUnit) : (s.withTu x).mu = s.mu := rfl
@[simp] theorem withTu_vc (s : State) (x : TickerUnit) : (s.withTu x).vc = s.vc := rfl
@[simp] theorem withTu_ps (s : State) (x : TickerUnit) : (s.withTu x).ps = s.ps := rfl
@[simp] theorem withTu_self (s : State) : s.withTu s.tu = s := rfl
@[simp] theorem withTu_withTu (s : State) (x y : TickerUnit) : (s.withTu x).withTu y = s.withTu y := rfl

/-! ### withMu -/

@[simp] theorem withMu_pending (s : State) (x : MeterUnit) : (s.withMu x).pending = s.pending := rfl
@[simp] theorem withMu_inReset (s : State) (x : MeterUnit) : (s.withMu x).inReset = s.inReset := rfl
@[simp] theorem withMu_ports (s : State) (x : MeterUnit) : (s.withMu x).ports = s.ports := rfl
@[simp] theorem withMu_qm (s : State) (x : MeterUnit) : (s.withMu x).qm = s.qm := rfl
@[simp] theorem withMu_sl (s : State) (x : MeterUnit) : (s.withMu x).sl = s.sl := rfl
@[simp] theorem withMu_sc (s : State) (x : MeterUnit) : (s.withMu x).sc = s.sc := rfl
@[simp] theorem withMu_pt (s : State) (x : MeterUnit) : (s.withMu x).pt = s.pt := rfl
@[simp] theorem withMu_su (s : State) (x : MeterUnit) : (s.withMu x).su = s.su := rfl
@[simp] theorem withMu_lr (s : State) (x : MeterUnit) : (s.withMu x).lr = s.lr := rfl
@[simp] theorem withMu_tu (s : State) (x : MeterUnit) : (s.withMu x).tu = s.tu := rfl
@[simp] theorem withMu_mu (s : State) (x : MeterUnit) : (s.withMu x).mu = x := rfl
@[simp] theorem withMu_vc (s : State) (x : MeterUnit) : (s.withMu x).vc = s.vc := rfl
@[simp] theorem withMu_ps (s : State) (x : MeterUnit) : (s.withMu x).ps = s.ps := rfl
@[simp] theorem withMu_self (s : State) : s.withMu s.mu = s := rfl
@[simp] theorem withMu_withMu (s : State) (x y : MeterUnit) : (s.withMu x).withMu y = s.withMu y := rfl

/-! ### withVc -/

@[simp] theorem withVc_pending (s : State) (x : VideoCompositor) : (s.withVc x).pending = s.pending := rfl
@[simp] theorem withVc_inReset (s : State) (x : VideoCompositor) : (s.withVc x).inReset = s.inReset := rfl
@[simp] theorem withVc_ports (s : State) (x : VideoCompositor) : (s.withVc x).ports = s.ports := rfl
@[simp] theorem withVc_qm (s : State) (x : VideoCompositor) : (s.withVc x).qm = s.qm := rfl
@[simp] theorem withVc_sl (s : State) (x : VideoCompositor) : (s.withVc x).sl = s.sl := rfl
@[simp] theorem withVc_sc (s : State) (x : VideoCompositor) : (s.withVc x).sc = s.sc := rfl
@[simp] theorem withVc_pt (s : State) (x : VideoCompositor) : (s.withVc x).pt = s.pt := rfl
@[simp] theorem withVc_su (s : State) (x : VideoCompositor) : (s.withVc x).su = s.su := rfl
@[simp] theorem withVc_lr (s : State) (x : VideoCompositor) : (s.withVc x).lr = s.lr := rfl
@[simp] theorem withVc_tu (s : State) (x : VideoCompositor) : (s.withVc x).tu = s.tu := rfl
@[simp] theorem withVc_mu (s : State) (x : VideoCompositor) : (s.withVc x).mu = s.mu := rfl
@[simp] theorem withVc_vc (s : State) (x : VideoCompositor) : (s.withVc x).vc = x := rfl
@[simp] theorem withVc_ps (s : State) (x : VideoCompositor) : (s.withVc x).ps = s.ps := rfl
@[simp] theorem withVc_self (s : State) : s.withVc s.vc = s := rfl
@[simp] theorem withVc_withVc (s : State) (x y : VideoCompositor) : (s.withVc x).withVc y = s.withVc y := rfl

/-! ### withPs -/

@[simp] theorem withPs_pending (s : State) (x : ProfileStore) : (s.withPs x).pending = s.pending := rfl
@[simp] theorem withPs_inReset (s : State) (x : ProfileStore) : (s.withPs x).inReset = s.inReset := rfl
@[simp] theorem withPs_ports (s : State) (x : ProfileStore) : (s.withPs x).ports = s.ports := rfl
@[simp] theorem withPs_qm (s : State) (x : ProfileStore) : (s.withPs x).qm = s.qm := rfl
@[simp] theorem withPs_sl (s : State) (x : ProfileStore) : (s.withPs x).sl = s.sl := rfl
@[simp] theorem withPs_sc (s : State) (x : ProfileStore) : (s.withPs x).sc = s.sc := rfl
@[simp] theorem withPs_pt (s : State) (x : ProfileStore) : (s.withPs x).pt = s.pt := rfl
@[simp] theorem withPs_su (s : State) (x : ProfileStore) : (s.withPs x).su = s.su := rfl
@[simp] theorem withPs_lr (s : State) (x : ProfileStore) : (s.withPs x).lr = s.lr := rfl
@[simp] theorem withPs_tu (s : State) (x : ProfileStore) : (s.withPs x).tu = s.tu := rfl
@[simp] theorem withPs_mu (s : State) (x : ProfileStore) : (s.withPs x).mu = s.mu := rfl
@[simp] theorem withPs_vc (s : State) (x : ProfileStore) : (s.withPs x).vc = s.vc := rfl
@[simp] theorem withPs_ps (s : State) (x : ProfileStore) : (s.withPs x).ps = x := rfl
@[simp] theorem withPs_self (s : State) : s.withPs s.ps = s := rfl
@[simp] theorem withPs_withPs (s : State) (x y : ProfileStore) : (s.withPs x).withPs y = s.withPs y := rfl

end Sys2Proof.Machine.State
end

