-- ==== Sys2Proof/Laws/Frames.lean ====
section
/-! SUPPORT. What each shared operation leaves as it was, block by block. -/

namespace Sys2Proof.Machine

/-! ### modifyPort -/

@[simp] theorem State.modifyPort_pending (s : State) (src : Source) (f : Port → Port) : (s.modifyPort src f).pending = s.pending := rfl
@[simp] theorem State.modifyPort_inReset (s : State) (src : Source) (f : Port → Port) : (s.modifyPort src f).inReset = s.inReset := rfl
@[simp] theorem State.modifyPort_qm (s : State) (src : Source) (f : Port → Port) : (s.modifyPort src f).qm = s.qm := rfl
@[simp] theorem State.modifyPort_sl (s : State) (src : Source) (f : Port → Port) : (s.modifyPort src f).sl = s.sl := rfl
@[simp] theorem State.modifyPort_sc (s : State) (src : Source) (f : Port → Port) : (s.modifyPort src f).sc = s.sc := rfl
@[simp] theorem State.modifyPort_pt (s : State) (src : Source) (f : Port → Port) : (s.modifyPort src f).pt = s.pt := rfl
@[simp] theorem State.modifyPort_su (s : State) (src : Source) (f : Port → Port) : (s.modifyPort src f).su = s.su := rfl
@[simp] theorem State.modifyPort_lr (s : State) (src : Source) (f : Port → Port) : (s.modifyPort src f).lr = s.lr := rfl
@[simp] theorem State.modifyPort_tu (s : State) (src : Source) (f : Port → Port) : (s.modifyPort src f).tu = s.tu := rfl
@[simp] theorem State.modifyPort_mu (s : State) (src : Source) (f : Port → Port) : (s.modifyPort src f).mu = s.mu := rfl
@[simp] theorem State.modifyPort_vc (s : State) (src : Source) (f : Port → Port) : (s.modifyPort src f).vc = s.vc := rfl
@[simp] theorem State.modifyPort_ps (s : State) (src : Source) (f : Port → Port) : (s.modifyPort src f).ps = s.ps := rfl

/-! ### put -/

@[simp] theorem State.put_pending (s : State) (src : Source) (pl : Place) (r : Reply) : (s.put src pl r).pending = s.pending := rfl
@[simp] theorem State.put_inReset (s : State) (src : Source) (pl : Place) (r : Reply) : (s.put src pl r).inReset = s.inReset := rfl
@[simp] theorem State.put_qm (s : State) (src : Source) (pl : Place) (r : Reply) : (s.put src pl r).qm = s.qm := rfl
@[simp] theorem State.put_sl (s : State) (src : Source) (pl : Place) (r : Reply) : (s.put src pl r).sl = s.sl := rfl
@[simp] theorem State.put_sc (s : State) (src : Source) (pl : Place) (r : Reply) : (s.put src pl r).sc = s.sc := rfl
@[simp] theorem State.put_pt (s : State) (src : Source) (pl : Place) (r : Reply) : (s.put src pl r).pt = s.pt := rfl
@[simp] theorem State.put_su (s : State) (src : Source) (pl : Place) (r : Reply) : (s.put src pl r).su = s.su := rfl
@[simp] theorem State.put_lr (s : State) (src : Source) (pl : Place) (r : Reply) : (s.put src pl r).lr = s.lr := rfl
@[simp] theorem State.put_tu (s : State) (src : Source) (pl : Place) (r : Reply) : (s.put src pl r).tu = s.tu := rfl
@[simp] theorem State.put_mu (s : State) (src : Source) (pl : Place) (r : Reply) : (s.put src pl r).mu = s.mu := rfl
@[simp] theorem State.put_vc (s : State) (src : Source) (pl : Place) (r : Reply) : (s.put src pl r).vc = s.vc := rfl
@[simp] theorem State.put_ps (s : State) (src : Source) (pl : Place) (r : Reply) : (s.put src pl r).ps = s.ps := rfl

/-! ### answer -/

@[simp] theorem State.answer_pending (s : State) (src : Source) (c : Command) (a : Answer) : (s.answer src c a).pending = s.pending := rfl
@[simp] theorem State.answer_inReset (s : State) (src : Source) (c : Command) (a : Answer) : (s.answer src c a).inReset = s.inReset := rfl
@[simp] theorem State.answer_qm (s : State) (src : Source) (c : Command) (a : Answer) : (s.answer src c a).qm = s.qm := rfl
@[simp] theorem State.answer_sl (s : State) (src : Source) (c : Command) (a : Answer) : (s.answer src c a).sl = s.sl := rfl
@[simp] theorem State.answer_sc (s : State) (src : Source) (c : Command) (a : Answer) : (s.answer src c a).sc = s.sc := rfl
@[simp] theorem State.answer_pt (s : State) (src : Source) (c : Command) (a : Answer) : (s.answer src c a).pt = s.pt := rfl
@[simp] theorem State.answer_su (s : State) (src : Source) (c : Command) (a : Answer) : (s.answer src c a).su = s.su := rfl
@[simp] theorem State.answer_lr (s : State) (src : Source) (c : Command) (a : Answer) : (s.answer src c a).lr = s.lr := rfl
@[simp] theorem State.answer_tu (s : State) (src : Source) (c : Command) (a : Answer) : (s.answer src c a).tu = s.tu := rfl
@[simp] theorem State.answer_mu (s : State) (src : Source) (c : Command) (a : Answer) : (s.answer src c a).mu = s.mu := rfl
@[simp] theorem State.answer_vc (s : State) (src : Source) (c : Command) (a : Answer) : (s.answer src c a).vc = s.vc := rfl
@[simp] theorem State.answer_ps (s : State) (src : Source) (c : Command) (a : Answer) : (s.answer src c a).ps = s.ps := rfl

/-! ### refuse -/

@[simp] theorem State.refuse_pending (s : State) (src : Source) (code : Byte) (why : ReplyCode) : (s.refuse src code why).pending = s.pending := by
  unfold State.refuse; split <;> rfl

@[simp] theorem State.refuse_inReset (s : State) (src : Source) (code : Byte) (why : ReplyCode) : (s.refuse src code why).inReset = s.inReset := by
  unfold State.refuse; split <;> rfl

@[simp] theorem State.refuse_qm (s : State) (src : Source) (code : Byte) (why : ReplyCode) : (s.refuse src code why).qm = s.qm := by
  unfold State.refuse; split <;> rfl

@[simp] theorem State.refuse_sl (s : State) (src : Source) (code : Byte) (why : ReplyCode) : (s.refuse src code why).sl = s.sl := by
  unfold State.refuse; split <;> rfl

@[simp] theorem State.refuse_sc (s : State) (src : Source) (code : Byte) (why : ReplyCode) : (s.refuse src code why).sc = s.sc := by
  unfold State.refuse; split <;> rfl

@[simp] theorem State.refuse_pt (s : State) (src : Source) (code : Byte) (why : ReplyCode) : (s.refuse src code why).pt = s.pt := by
  unfold State.refuse; split <;> rfl

@[simp] theorem State.refuse_su (s : State) (src : Source) (code : Byte) (why : ReplyCode) : (s.refuse src code why).su = s.su := by
  unfold State.refuse; split <;> rfl

@[simp] theorem State.refuse_lr (s : State) (src : Source) (code : Byte) (why : ReplyCode) : (s.refuse src code why).lr = s.lr := by
  unfold State.refuse; split <;> rfl

@[simp] theorem State.refuse_tu (s : State) (src : Source) (code : Byte) (why : ReplyCode) : (s.refuse src code why).tu = s.tu := by
  unfold State.refuse; split <;> rfl

@[simp] theorem State.refuse_mu (s : State) (src : Source) (code : Byte) (why : ReplyCode) : (s.refuse src code why).mu = s.mu := by
  unfold State.refuse; split <;> rfl

@[simp] theorem State.refuse_vc (s : State) (src : Source) (code : Byte) (why : ReplyCode) : (s.refuse src code why).vc = s.vc := by
  unfold State.refuse; split <;> rfl

@[simp] theorem State.refuse_ps (s : State) (src : Source) (code : Byte) (why : ReplyCode) : (s.refuse src code why).ps = s.ps := by
  unfold State.refuse; split <;> rfl

/-! ### route -/

@[simp] theorem State.route_pending (s : State) (src : Source) (c : Command) : (s.route src c).pending = s.pending := rfl
@[simp] theorem State.route_inReset (s : State) (src : Source) (c : Command) : (s.route src c).inReset = s.inReset := rfl
@[simp] theorem State.route_qm (s : State) (src : Source) (c : Command) : (s.route src c).qm = s.qm := rfl
@[simp] theorem State.route_sl (s : State) (src : Source) (c : Command) : (s.route src c).sl = s.sl := rfl
@[simp] theorem State.route_sc (s : State) (src : Source) (c : Command) : (s.route src c).sc = s.sc := rfl
@[simp] theorem State.route_pt (s : State) (src : Source) (c : Command) : (s.route src c).pt = s.pt := rfl
@[simp] theorem State.route_su (s : State) (src : Source) (c : Command) : (s.route src c).su = s.su := rfl
@[simp] theorem State.route_lr (s : State) (src : Source) (c : Command) : (s.route src c).lr = s.lr := rfl
@[simp] theorem State.route_tu (s : State) (src : Source) (c : Command) : (s.route src c).tu = s.tu := rfl
@[simp] theorem State.route_mu (s : State) (src : Source) (c : Command) : (s.route src c).mu = s.mu := rfl
@[simp] theorem State.route_vc (s : State) (src : Source) (c : Command) : (s.route src c).vc = s.vc := rfl
@[simp] theorem State.route_ps (s : State) (src : Source) (c : Command) : (s.route src c).ps = s.ps := rfl

/-! ### raiseAll -/

@[simp] theorem State.raiseAll_pending (s : State) (e : Event) : (s.raiseAll e).pending = s.pending := rfl
@[simp] theorem State.raiseAll_inReset (s : State) (e : Event) : (s.raiseAll e).inReset = s.inReset := rfl
@[simp] theorem State.raiseAll_qm (s : State) (e : Event) : (s.raiseAll e).qm = s.qm := rfl
@[simp] theorem State.raiseAll_sl (s : State) (e : Event) : (s.raiseAll e).sl = s.sl := rfl
@[simp] theorem State.raiseAll_sc (s : State) (e : Event) : (s.raiseAll e).sc = s.sc := rfl
@[simp] theorem State.raiseAll_pt (s : State) (e : Event) : (s.raiseAll e).pt = s.pt := rfl
@[simp] theorem State.raiseAll_su (s : State) (e : Event) : (s.raiseAll e).su = s.su := rfl
@[simp] theorem State.raiseAll_lr (s : State) (e : Event) : (s.raiseAll e).lr = s.lr := rfl
@[simp] theorem State.raiseAll_tu (s : State) (e : Event) : (s.raiseAll e).tu = s.tu := rfl
@[simp] theorem State.raiseAll_mu (s : State) (e : Event) : (s.raiseAll e).mu = s.mu := rfl
@[simp] theorem State.raiseAll_vc (s : State) (e : Event) : (s.raiseAll e).vc = s.vc := rfl
@[simp] theorem State.raiseAll_ps (s : State) (e : Event) : (s.raiseAll e).ps = s.ps := rfl

/-! ### raisePlayer -/

@[simp] theorem State.raisePlayer_pending (s : State) (e : Event) : (s.raisePlayer e).pending = s.pending := rfl
@[simp] theorem State.raisePlayer_inReset (s : State) (e : Event) : (s.raisePlayer e).inReset = s.inReset := rfl
@[simp] theorem State.raisePlayer_qm (s : State) (e : Event) : (s.raisePlayer e).qm = s.qm := rfl
@[simp] theorem State.raisePlayer_sl (s : State) (e : Event) : (s.raisePlayer e).sl = s.sl := rfl
@[simp] theorem State.raisePlayer_sc (s : State) (e : Event) : (s.raisePlayer e).sc = s.sc := rfl
@[simp] theorem State.raisePlayer_pt (s : State) (e : Event) : (s.raisePlayer e).pt = s.pt := rfl
@[simp] theorem State.raisePlayer_su (s : State) (e : Event) : (s.raisePlayer e).su = s.su := rfl
@[simp] theorem State.raisePlayer_lr (s : State) (e : Event) : (s.raisePlayer e).lr = s.lr := rfl
@[simp] theorem State.raisePlayer_tu (s : State) (e : Event) : (s.raisePlayer e).tu = s.tu := rfl
@[simp] theorem State.raisePlayer_mu (s : State) (e : Event) : (s.raisePlayer e).mu = s.mu := rfl
@[simp] theorem State.raisePlayer_vc (s : State) (e : Event) : (s.raisePlayer e).vc = s.vc := rfl
@[simp] theorem State.raisePlayer_ps (s : State) (e : Event) : (s.raisePlayer e).ps = s.ps := rfl

/-! ### receive -/

@[simp] theorem State.receive_pending (s : State) (src : Source) (r : Receiver) : (s.receive src r).pending = s.pending := rfl
@[simp] theorem State.receive_inReset (s : State) (src : Source) (r : Receiver) : (s.receive src r).inReset = s.inReset := rfl
@[simp] theorem State.receive_qm (s : State) (src : Source) (r : Receiver) : (s.receive src r).qm = s.qm := rfl
@[simp] theorem State.receive_sl (s : State) (src : Source) (r : Receiver) : (s.receive src r).sl = s.sl := rfl
@[simp] theorem State.receive_sc (s : State) (src : Source) (r : Receiver) : (s.receive src r).sc = s.sc := rfl
@[simp] theorem State.receive_pt (s : State) (src : Source) (r : Receiver) : (s.receive src r).pt = s.pt := rfl
@[simp] theorem State.receive_su (s : State) (src : Source) (r : Receiver) : (s.receive src r).su = s.su := rfl
@[simp] theorem State.receive_lr (s : State) (src : Source) (r : Receiver) : (s.receive src r).lr = s.lr := rfl
@[simp] theorem State.receive_tu (s : State) (src : Source) (r : Receiver) : (s.receive src r).tu = s.tu := rfl
@[simp] theorem State.receive_mu (s : State) (src : Source) (r : Receiver) : (s.receive src r).mu = s.mu := rfl
@[simp] theorem State.receive_vc (s : State) (src : Source) (r : Receiver) : (s.receive src r).vc = s.vc := rfl
@[simp] theorem State.receive_ps (s : State) (src : Source) (r : Receiver) : (s.receive src r).ps = s.ps := rfl

/-! ### markTicker -/

@[simp] theorem State.markTicker_pending (s : State) : s.markTicker.pending = s.pending := rfl
@[simp] theorem State.markTicker_inReset (s : State) : s.markTicker.inReset = s.inReset := rfl
@[simp] theorem State.markTicker_ports (s : State) : s.markTicker.ports = s.ports := rfl
@[simp] theorem State.markTicker_qm (s : State) : s.markTicker.qm = s.qm := rfl
@[simp] theorem State.markTicker_sl (s : State) : s.markTicker.sl = s.sl := rfl
@[simp] theorem State.markTicker_sc (s : State) : s.markTicker.sc = s.sc := rfl
@[simp] theorem State.markTicker_pt (s : State) : s.markTicker.pt = s.pt := rfl
@[simp] theorem State.markTicker_su (s : State) : s.markTicker.su = s.su := rfl
@[simp] theorem State.markTicker_lr (s : State) : s.markTicker.lr = s.lr := rfl
@[simp] theorem State.markTicker_mu (s : State) : s.markTicker.mu = s.mu := rfl
@[simp] theorem State.markTicker_vc (s : State) : s.markTicker.vc = s.vc := rfl
@[simp] theorem State.markTicker_ps (s : State) : s.markTicker.ps = s.ps := rfl

/-! ### queueChanged -/

@[simp] theorem State.queueChanged_pending (s : State) : s.queueChanged.pending = s.pending := rfl
@[simp] theorem State.queueChanged_inReset (s : State) : s.queueChanged.inReset = s.inReset := rfl
@[simp] theorem State.queueChanged_qm (s : State) : s.queueChanged.qm = s.qm := rfl
@[simp] theorem State.queueChanged_sl (s : State) : s.queueChanged.sl = s.sl := rfl
@[simp] theorem State.queueChanged_sc (s : State) : s.queueChanged.sc = s.sc := rfl
@[simp] theorem State.queueChanged_pt (s : State) : s.queueChanged.pt = s.pt := rfl
@[simp] theorem State.queueChanged_su (s : State) : s.queueChanged.su = s.su := rfl
@[simp] theorem State.queueChanged_lr (s : State) : s.queueChanged.lr = s.lr := rfl
@[simp] theorem State.queueChanged_mu (s : State) : s.queueChanged.mu = s.mu := rfl
@[simp] theorem State.queueChanged_vc (s : State) : s.queueChanged.vc = s.vc := rfl
@[simp] theorem State.queueChanged_ps (s : State) : s.queueChanged.ps = s.ps := rfl

/-! ### take -/

@[simp] theorem State.take_pending (s : State) (op : Operation) : (s.take op).pending = s.pending := rfl
@[simp] theorem State.take_inReset (s : State) (op : Operation) : (s.take op).inReset = s.inReset := rfl
@[simp] theorem State.take_ports (s : State) (op : Operation) : (s.take op).ports = s.ports := rfl
@[simp] theorem State.take_sl (s : State) (op : Operation) : (s.take op).sl = s.sl := rfl
@[simp] theorem State.take_sc (s : State) (op : Operation) : (s.take op).sc = s.sc := rfl
@[simp] theorem State.take_pt (s : State) (op : Operation) : (s.take op).pt = s.pt := rfl
@[simp] theorem State.take_su (s : State) (op : Operation) : (s.take op).su = s.su := rfl
@[simp] theorem State.take_lr (s : State) (op : Operation) : (s.take op).lr = s.lr := rfl
@[simp] theorem State.take_tu (s : State) (op : Operation) : (s.take op).tu = s.tu := rfl
@[simp] theorem State.take_mu (s : State) (op : Operation) : (s.take op).mu = s.mu := rfl
@[simp] theorem State.take_vc (s : State) (op : Operation) : (s.take op).vc = s.vc := rfl
@[simp] theorem State.take_ps (s : State) (op : Operation) : (s.take op).ps = s.ps := rfl

/-! ### arrive -/

@[simp] theorem State.arrive_pending (s : State) (op : Operation) : (s.arrive op).pending = s.pending := by
  unfold State.arrive; split
  · rfl
  · cases op <;> rfl

@[simp] theorem State.arrive_inReset (s : State) (op : Operation) : (s.arrive op).inReset = s.inReset := by
  unfold State.arrive; split
  · rfl
  · cases op <;> rfl

@[simp] theorem State.arrive_ports (s : State) (op : Operation) : (s.arrive op).ports = s.ports := by
  unfold State.arrive; split
  · rfl
  · cases op <;> rfl

@[simp] theorem State.arrive_sl (s : State) (op : Operation) : (s.arrive op).sl = s.sl := by
  unfold State.arrive; split
  · rfl
  · cases op <;> rfl

@[simp] theorem State.arrive_sc (s : State) (op : Operation) : (s.arrive op).sc = s.sc := by
  unfold State.arrive; split
  · rfl
  · cases op <;> rfl

@[simp] theorem State.arrive_pt (s : State) (op : Operation) : (s.arrive op).pt = s.pt := by
  unfold State.arrive; split
  · rfl
  · cases op <;> rfl

@[simp] theorem State.arrive_su (s : State) (op : Operation) : (s.arrive op).su = s.su := by
  unfold State.arrive; split
  · rfl
  · cases op <;> rfl

@[simp] theorem State.arrive_lr (s : State) (op : Operation) : (s.arrive op).lr = s.lr := by
  unfold State.arrive; split
  · rfl
  · cases op <;> rfl

@[simp] theorem State.arrive_tu (s : State) (op : Operation) : (s.arrive op).tu = s.tu := by
  unfold State.arrive; split
  · rfl
  · cases op <;> rfl

@[simp] theorem State.arrive_mu (s : State) (op : Operation) : (s.arrive op).mu = s.mu := by
  unfold State.arrive; split
  · rfl
  · cases op <;> rfl

@[simp] theorem State.arrive_vc (s : State) (op : Operation) : (s.arrive op).vc = s.vc := by
  unfold State.arrive; split
  · rfl
  · cases op <;> rfl

@[simp] theorem State.arrive_ps (s : State) (op : Operation) : (s.arrive op).ps = s.ps := by
  unfold State.arrive; split
  · rfl
  · cases op <;> rfl

/-! ### takeOldestEdit -/

@[simp] theorem State.takeOldestEdit_pending (s : State) : s.takeOldestEdit.pending = s.pending := by
  unfold State.takeOldestEdit; split <;> rfl

@[simp] theorem State.takeOldestEdit_inReset (s : State) : s.takeOldestEdit.inReset = s.inReset := by
  unfold State.takeOldestEdit; split <;> rfl

@[simp] theorem State.takeOldestEdit_ports (s : State) : s.takeOldestEdit.ports = s.ports := by
  unfold State.takeOldestEdit; split <;> rfl

@[simp] theorem State.takeOldestEdit_sl (s : State) : s.takeOldestEdit.sl = s.sl := by
  unfold State.takeOldestEdit; split <;> rfl

@[simp] theorem State.takeOldestEdit_sc (s : State) : s.takeOldestEdit.sc = s.sc := by
  unfold State.takeOldestEdit; split <;> rfl

@[simp] theorem State.takeOldestEdit_pt (s : State) : s.takeOldestEdit.pt = s.pt := by
  unfold State.takeOldestEdit; split <;> rfl

@[simp] theorem State.takeOldestEdit_su (s : State) : s.takeOldestEdit.su = s.su := by
  unfold State.takeOldestEdit; split <;> rfl

@[simp] theorem State.takeOldestEdit_lr (s : State) : s.takeOldestEdit.lr = s.lr := by
  unfold State.takeOldestEdit; split <;> rfl

@[simp] theorem State.takeOldestEdit_tu (s : State) : s.takeOldestEdit.tu = s.tu := by
  unfold State.takeOldestEdit; split <;> rfl

@[simp] theorem State.takeOldestEdit_mu (s : State) : s.takeOldestEdit.mu = s.mu := by
  unfold State.takeOldestEdit; split <;> rfl

@[simp] theorem State.takeOldestEdit_vc (s : State) : s.takeOldestEdit.vc = s.vc := by
  unfold State.takeOldestEdit; split <;> rfl

@[simp] theorem State.takeOldestEdit_ps (s : State) : s.takeOldestEdit.ps = s.ps := by
  unfold State.takeOldestEdit; split <;> rfl

/-! ### arbitrate -/

@[simp] theorem State.arbitrate_pending (s : State) : s.arbitrate.pending = s.pending := by
  unfold State.arbitrate
  split
  · rfl
  · split
    · split
      · simp
      · rfl
    · simp

@[simp] theorem State.arbitrate_inReset (s : State) : s.arbitrate.inReset = s.inReset := by
  unfold State.arbitrate
  split
  · rfl
  · split
    · split
      · simp
      · rfl
    · simp

@[simp] theorem State.arbitrate_ports (s : State) : s.arbitrate.ports = s.ports := by
  unfold State.arbitrate
  split
  · rfl
  · split
    · split
      · simp
      · rfl
    · simp

@[simp] theorem State.arbitrate_sl (s : State) : s.arbitrate.sl = s.sl := by
  unfold State.arbitrate
  split
  · rfl
  · split
    · split
      · simp
      · rfl
    · simp

@[simp] theorem State.arbitrate_sc (s : State) : s.arbitrate.sc = s.sc := by
  unfold State.arbitrate
  split
  · rfl
  · split
    · split
      · simp
      · rfl
    · simp

@[simp] theorem State.arbitrate_pt (s : State) : s.arbitrate.pt = s.pt := by
  unfold State.arbitrate
  split
  · rfl
  · split
    · split
      · simp
      · rfl
    · simp

@[simp] theorem State.arbitrate_su (s : State) : s.arbitrate.su = s.su := by
  unfold State.arbitrate
  split
  · rfl
  · split
    · split
      · simp
      · rfl
    · simp

@[simp] theorem State.arbitrate_lr (s : State) : s.arbitrate.lr = s.lr := by
  unfold State.arbitrate
  split
  · rfl
  · split
    · split
      · simp
      · rfl
    · simp

@[simp] theorem State.arbitrate_tu (s : State) : s.arbitrate.tu = s.tu := by
  unfold State.arbitrate
  split
  · rfl
  · split
    · split
      · simp
      · rfl
    · simp

@[simp] theorem State.arbitrate_mu (s : State) : s.arbitrate.mu = s.mu := by
  unfold State.arbitrate
  split
  · rfl
  · split
    · split
      · simp
      · rfl
    · simp

@[simp] theorem State.arbitrate_vc (s : State) : s.arbitrate.vc = s.vc := by
  unfold State.arbitrate
  split
  · rfl
  · split
    · split
      · simp
      · rfl
    · simp

@[simp] theorem State.arbitrate_ps (s : State) : s.arbitrate.ps = s.ps := by
  unfold State.arbitrate
  split
  · rfl
  · split
    · split
      · simp
      · rfl
    · simp

/-! ### dropSlots -/

@[simp] theorem State.dropSlots_pending (s : State) (test : Slot → Bool) : (s.dropSlots test).pending = s.pending := by
  unfold State.dropSlots; split <;> rfl

@[simp] theorem State.dropSlots_inReset (s : State) (test : Slot → Bool) : (s.dropSlots test).inReset = s.inReset := by
  unfold State.dropSlots; split <;> rfl

@[simp] theorem State.dropSlots_qm (s : State) (test : Slot → Bool) : (s.dropSlots test).qm = s.qm := by
  unfold State.dropSlots; split <;> rfl

@[simp] theorem State.dropSlots_sc (s : State) (test : Slot → Bool) : (s.dropSlots test).sc = s.sc := by
  unfold State.dropSlots; split <;> rfl

@[simp] theorem State.dropSlots_pt (s : State) (test : Slot → Bool) : (s.dropSlots test).pt = s.pt := by
  unfold State.dropSlots; split <;> rfl

@[simp] theorem State.dropSlots_su (s : State) (test : Slot → Bool) : (s.dropSlots test).su = s.su := by
  unfold State.dropSlots; split <;> rfl

@[simp] theorem State.dropSlots_lr (s : State) (test : Slot → Bool) : (s.dropSlots test).lr = s.lr := by
  unfold State.dropSlots; split <;> rfl

@[simp] theorem State.dropSlots_tu (s : State) (test : Slot → Bool) : (s.dropSlots test).tu = s.tu := by
  unfold State.dropSlots; split <;> rfl

@[simp] theorem State.dropSlots_mu (s : State) (test : Slot → Bool) : (s.dropSlots test).mu = s.mu := by
  unfold State.dropSlots; split <;> rfl

@[simp] theorem State.dropSlots_vc (s : State) (test : Slot → Bool) : (s.dropSlots test).vc = s.vc := by
  unfold State.dropSlots; split <;> rfl

@[simp] theorem State.dropSlots_ps (s : State) (test : Slot → Bool) : (s.dropSlots test).ps = s.ps := by
  unfold State.dropSlots; split <;> rfl

/-! ### noteChange -/

@[simp] theorem State.noteChange_pending (s : State) (q : QueueManager) : (s.noteChange q).pending = s.pending := by
  unfold State.noteChange; split <;> rfl

@[simp] theorem State.noteChange_inReset (s : State) (q : QueueManager) : (s.noteChange q).inReset = s.inReset := by
  unfold State.noteChange; split <;> rfl

@[simp] theorem State.noteChange_qm (s : State) (q : QueueManager) : (s.noteChange q).qm = s.qm := by
  unfold State.noteChange; split <;> rfl

@[simp] theorem State.noteChange_sl (s : State) (q : QueueManager) : (s.noteChange q).sl = s.sl := by
  unfold State.noteChange; split <;> rfl

@[simp] theorem State.noteChange_sc (s : State) (q : QueueManager) : (s.noteChange q).sc = s.sc := by
  unfold State.noteChange; split <;> rfl

@[simp] theorem State.noteChange_pt (s : State) (q : QueueManager) : (s.noteChange q).pt = s.pt := by
  unfold State.noteChange; split <;> rfl

@[simp] theorem State.noteChange_su (s : State) (q : QueueManager) : (s.noteChange q).su = s.su := by
  unfold State.noteChange; split <;> rfl

@[simp] theorem State.noteChange_lr (s : State) (q : QueueManager) : (s.noteChange q).lr = s.lr := by
  unfold State.noteChange; split <;> rfl

@[simp] theorem State.noteChange_mu (s : State) (q : QueueManager) : (s.noteChange q).mu = s.mu := by
  unfold State.noteChange; split <;> rfl

@[simp] theorem State.noteChange_vc (s : State) (q : QueueManager) : (s.noteChange q).vc = s.vc := by
  unfold State.noteChange; split <;> rfl

@[simp] theorem State.noteChange_ps (s : State) (q : QueueManager) : (s.noteChange q).ps = s.ps := by
  unfold State.noteChange; split <;> rfl

/-! ### applyDrop -/

@[simp] theorem State.applyDrop_pending (s : State) (d : SlotDrop) : (s.applyDrop d).pending = s.pending := by
  unfold State.applyDrop; split <;> simp

@[simp] theorem State.applyDrop_inReset (s : State) (d : SlotDrop) : (s.applyDrop d).inReset = s.inReset := by
  unfold State.applyDrop; split <;> simp

@[simp] theorem State.applyDrop_qm (s : State) (d : SlotDrop) : (s.applyDrop d).qm = s.qm := by
  unfold State.applyDrop; split <;> simp

@[simp] theorem State.applyDrop_sc (s : State) (d : SlotDrop) : (s.applyDrop d).sc = s.sc := by
  unfold State.applyDrop; split <;> simp

@[simp] theorem State.applyDrop_pt (s : State) (d : SlotDrop) : (s.applyDrop d).pt = s.pt := by
  unfold State.applyDrop; split <;> simp

@[simp] theorem State.applyDrop_su (s : State) (d : SlotDrop) : (s.applyDrop d).su = s.su := by
  unfold State.applyDrop; split <;> simp

@[simp] theorem State.applyDrop_lr (s : State) (d : SlotDrop) : (s.applyDrop d).lr = s.lr := by
  unfold State.applyDrop; split <;> simp

@[simp] theorem State.applyDrop_tu (s : State) (d : SlotDrop) : (s.applyDrop d).tu = s.tu := by
  unfold State.applyDrop; split <;> simp

@[simp] theorem State.applyDrop_mu (s : State) (d : SlotDrop) : (s.applyDrop d).mu = s.mu := by
  unfold State.applyDrop; split <;> simp

@[simp] theorem State.applyDrop_vc (s : State) (d : SlotDrop) : (s.applyDrop d).vc = s.vc := by
  unfold State.applyDrop; split <;> simp

@[simp] theorem State.applyDrop_ps (s : State) (d : SlotDrop) : (s.applyDrop d).ps = s.ps := by
  unfold State.applyDrop; split <;> simp

/-! ### draw -/

@[simp] theorem State.draw_pending (s : State) : s.draw.pending = s.pending := rfl
@[simp] theorem State.draw_inReset (s : State) : s.draw.inReset = s.inReset := rfl
@[simp] theorem State.draw_ports (s : State) : s.draw.ports = s.ports := rfl
@[simp] theorem State.draw_qm (s : State) : s.draw.qm = s.qm := rfl
@[simp] theorem State.draw_sl (s : State) : s.draw.sl = s.sl := rfl
@[simp] theorem State.draw_sc (s : State) : s.draw.sc = s.sc := rfl
@[simp] theorem State.draw_pt (s : State) : s.draw.pt = s.pt := rfl
@[simp] theorem State.draw_su (s : State) : s.draw.su = s.su := rfl
@[simp] theorem State.draw_lr (s : State) : s.draw.lr = s.lr := rfl
@[simp] theorem State.draw_tu (s : State) : s.draw.tu = s.tu := rfl
@[simp] theorem State.draw_mu (s : State) : s.draw.mu = s.mu := rfl
@[simp] theorem State.draw_ps (s : State) : s.draw.ps = s.ps := rfl

/-! ### latch -/

@[simp] theorem State.latch_pending (s : State) : s.latch.pending = s.pending := rfl
@[simp] theorem State.latch_inReset (s : State) : s.latch.inReset = s.inReset := rfl
@[simp] theorem State.latch_ports (s : State) : s.latch.ports = s.ports := rfl
@[simp] theorem State.latch_qm (s : State) : s.latch.qm = s.qm := rfl
@[simp] theorem State.latch_sl (s : State) : s.latch.sl = s.sl := rfl
@[simp] theorem State.latch_sc (s : State) : s.latch.sc = s.sc := rfl
@[simp] theorem State.latch_pt (s : State) : s.latch.pt = s.pt := rfl
@[simp] theorem State.latch_su (s : State) : s.latch.su = s.su := rfl
@[simp] theorem State.latch_lr (s : State) : s.latch.lr = s.lr := rfl
@[simp] theorem State.latch_tu (s : State) : s.latch.tu = s.tu := rfl
@[simp] theorem State.latch_mu (s : State) : s.latch.mu = s.mu := rfl
@[simp] theorem State.latch_ps (s : State) : s.latch.ps = s.ps := rfl

/-! ### fitZones -/

@[simp] theorem State.fitZones_pending (s : State) : s.fitZones.pending = s.pending := by
  unfold State.fitZones; dsimp only; split <;> rfl

@[simp] theorem State.fitZones_inReset (s : State) : s.fitZones.inReset = s.inReset := by
  unfold State.fitZones; dsimp only; split <;> rfl

@[simp] theorem State.fitZones_qm (s : State) : s.fitZones.qm = s.qm := by
  unfold State.fitZones; dsimp only; split <;> rfl

@[simp] theorem State.fitZones_sl (s : State) : s.fitZones.sl = s.sl := by
  unfold State.fitZones; dsimp only; split <;> rfl

@[simp] theorem State.fitZones_sc (s : State) : s.fitZones.sc = s.sc := by
  unfold State.fitZones; dsimp only; split <;> rfl

@[simp] theorem State.fitZones_pt (s : State) : s.fitZones.pt = s.pt := by
  unfold State.fitZones; dsimp only; split <;> rfl

@[simp] theorem State.fitZones_su (s : State) : s.fitZones.su = s.su := by
  unfold State.fitZones; dsimp only; split <;> rfl

@[simp] theorem State.fitZones_lr (s : State) : s.fitZones.lr = s.lr := by
  unfold State.fitZones; dsimp only; split <;> rfl

@[simp] theorem State.fitZones_tu (s : State) : s.fitZones.tu = s.tu := by
  unfold State.fitZones; dsimp only; split <;> rfl

@[simp] theorem State.fitZones_mu (s : State) : s.fitZones.mu = s.mu := by
  unfold State.fitZones; dsimp only; split <;> rfl

@[simp] theorem State.fitZones_vc (s : State) : s.fitZones.vc = s.vc := by
  unfold State.fitZones; dsimp only; split <;> rfl

/-! ### tickerFrame -/

@[simp] theorem State.tickerFrame_pending (s : State) : s.tickerFrame.pending = s.pending := rfl
@[simp] theorem State.tickerFrame_inReset (s : State) : s.tickerFrame.inReset = s.inReset := rfl
@[simp] theorem State.tickerFrame_ports (s : State) : s.tickerFrame.ports = s.ports := rfl
@[simp] theorem State.tickerFrame_qm (s : State) : s.tickerFrame.qm = s.qm := rfl
@[simp] theorem State.tickerFrame_sl (s : State) : s.tickerFrame.sl = s.sl := rfl
@[simp] theorem State.tickerFrame_sc (s : State) : s.tickerFrame.sc = s.sc := rfl
@[simp] theorem State.tickerFrame_pt (s : State) : s.tickerFrame.pt = s.pt := rfl
@[simp] theorem State.tickerFrame_su (s : State) : s.tickerFrame.su = s.su := rfl
@[simp] theorem State.tickerFrame_lr (s : State) : s.tickerFrame.lr = s.lr := rfl
@[simp] theorem State.tickerFrame_mu (s : State) : s.tickerFrame.mu = s.mu := rfl
@[simp] theorem State.tickerFrame_vc (s : State) : s.tickerFrame.vc = s.vc := rfl
@[simp] theorem State.tickerFrame_ps (s : State) : s.tickerFrame.ps = s.ps := rfl

/-! ### meterFrame -/

@[simp] theorem State.meterFrame_pending (s : State) : s.meterFrame.pending = s.pending := by
  unfold State.meterFrame; split <;> rfl

@[simp] theorem State.meterFrame_inReset (s : State) : s.meterFrame.inReset = s.inReset := by
  unfold State.meterFrame; split <;> rfl

@[simp] theorem State.meterFrame_ports (s : State) : s.meterFrame.ports = s.ports := by
  unfold State.meterFrame; split <;> rfl

@[simp] theorem State.meterFrame_qm (s : State) : s.meterFrame.qm = s.qm := by
  unfold State.meterFrame; split <;> rfl

@[simp] theorem State.meterFrame_sl (s : State) : s.meterFrame.sl = s.sl := by
  unfold State.meterFrame; split <;> rfl

@[simp] theorem State.meterFrame_sc (s : State) : s.meterFrame.sc = s.sc := by
  unfold State.meterFrame; split <;> rfl

@[simp] theorem State.meterFrame_pt (s : State) : s.meterFrame.pt = s.pt := by
  unfold State.meterFrame; split <;> rfl

@[simp] theorem State.meterFrame_su (s : State) : s.meterFrame.su = s.su := by
  unfold State.meterFrame; split <;> rfl

@[simp] theorem State.meterFrame_lr (s : State) : s.meterFrame.lr = s.lr := by
  unfold State.meterFrame; split <;> rfl

@[simp] theorem State.meterFrame_tu (s : State) : s.meterFrame.tu = s.tu := by
  unfold State.meterFrame; split <;> rfl

@[simp] theorem State.meterFrame_vc (s : State) : s.meterFrame.vc = s.vc := by
  unfold State.meterFrame; split <;> rfl

@[simp] theorem State.meterFrame_ps (s : State) : s.meterFrame.ps = s.ps := by
  unfold State.meterFrame; split <;> rfl

/-! ### relayout -/

@[simp] theorem State.relayout_pending (s : State) (k : LayoutKey) : (s.relayout k).pending = s.pending := by
  unfold State.relayout; split
  · rfl
  · split <;> rfl

@[simp] theorem State.relayout_inReset (s : State) (k : LayoutKey) : (s.relayout k).inReset = s.inReset := by
  unfold State.relayout; split
  · rfl
  · split <;> rfl

@[simp] theorem State.relayout_ports (s : State) (k : LayoutKey) : (s.relayout k).ports = s.ports := by
  unfold State.relayout; split
  · rfl
  · split <;> rfl

@[simp] theorem State.relayout_qm (s : State) (k : LayoutKey) : (s.relayout k).qm = s.qm := by
  unfold State.relayout; split
  · rfl
  · split <;> rfl

@[simp] theorem State.relayout_sl (s : State) (k : LayoutKey) : (s.relayout k).sl = s.sl := by
  unfold State.relayout; split
  · rfl
  · split <;> rfl

@[simp] theorem State.relayout_sc (s : State) (k : LayoutKey) : (s.relayout k).sc = s.sc := by
  unfold State.relayout; split
  · rfl
  · split <;> rfl

@[simp] theorem State.relayout_pt (s : State) (k : LayoutKey) : (s.relayout k).pt = s.pt := by
  unfold State.relayout; split
  · rfl
  · split <;> rfl

@[simp] theorem State.relayout_su (s : State) (k : LayoutKey) : (s.relayout k).su = s.su := by
  unfold State.relayout; split
  · rfl
  · split <;> rfl

@[simp] theorem State.relayout_tu (s : State) (k : LayoutKey) : (s.relayout k).tu = s.tu := by
  unfold State.relayout; split
  · rfl
  · split <;> rfl

@[simp] theorem State.relayout_mu (s : State) (k : LayoutKey) : (s.relayout k).mu = s.mu := by
  unfold State.relayout; split
  · rfl
  · split <;> rfl

@[simp] theorem State.relayout_vc (s : State) (k : LayoutKey) : (s.relayout k).vc = s.vc := by
  unfold State.relayout; split
  · rfl
  · split <;> rfl

@[simp] theorem State.relayout_ps (s : State) (k : LayoutKey) : (s.relayout k).ps = s.ps := by
  unfold State.relayout; split
  · rfl
  · split <;> rfl

/-! ### lyricFrame -/

@[simp] theorem State.lyricFrame_pending (s : State) (k : LayoutKey) : (s.lyricFrame k).pending = s.pending := by
  unfold State.lyricFrame; dsimp only; split <;> simp

@[simp] theorem State.lyricFrame_inReset (s : State) (k : LayoutKey) : (s.lyricFrame k).inReset = s.inReset := by
  unfold State.lyricFrame; dsimp only; split <;> simp

@[simp] theorem State.lyricFrame_ports (s : State) (k : LayoutKey) : (s.lyricFrame k).ports = s.ports := by
  unfold State.lyricFrame; dsimp only; split <;> simp

@[simp] theorem State.lyricFrame_qm (s : State) (k : LayoutKey) : (s.lyricFrame k).qm = s.qm := by
  unfold State.lyricFrame; dsimp only; split <;> simp

@[simp] theorem State.lyricFrame_sl (s : State) (k : LayoutKey) : (s.lyricFrame k).sl = s.sl := by
  unfold State.lyricFrame; dsimp only; split <;> simp

@[simp] theorem State.lyricFrame_sc (s : State) (k : LayoutKey) : (s.lyricFrame k).sc = s.sc := by
  unfold State.lyricFrame; dsimp only; split <;> simp

@[simp] theorem State.lyricFrame_pt (s : State) (k : LayoutKey) : (s.lyricFrame k).pt = s.pt := by
  unfold State.lyricFrame; dsimp only; split <;> simp

@[simp] theorem State.lyricFrame_su (s : State) (k : LayoutKey) : (s.lyricFrame k).su = s.su := by
  unfold State.lyricFrame; dsimp only; split <;> simp

@[simp] theorem State.lyricFrame_tu (s : State) (k : LayoutKey) : (s.lyricFrame k).tu = s.tu := by
  unfold State.lyricFrame; dsimp only; split <;> simp

@[simp] theorem State.lyricFrame_mu (s : State) (k : LayoutKey) : (s.lyricFrame k).mu = s.mu := by
  unfold State.lyricFrame; dsimp only; split <;> simp

@[simp] theorem State.lyricFrame_vc (s : State) (k : LayoutKey) : (s.lyricFrame k).vc = s.vc := by
  unfold State.lyricFrame; dsimp only; split <;> simp

@[simp] theorem State.lyricFrame_ps (s : State) (k : LayoutKey) : (s.lyricFrame k).ps = s.ps := by
  unfold State.lyricFrame; dsimp only; split <;> simp

end Sys2Proof.Machine
end

