-- ==== Sys2Proof/Laws/Ops.lean ====
section
/-! SUPPORT. What each shared operation can do, said once. -/

namespace Sys2Proof.Machine

/-! ### Port records -/

@[simp] theorem PortInterface.get_modify_same (pi : PortInterface) (src : Source) (f : Port → Port) :
    (pi.modify src f).get src = f (pi.get src) := by cases src <;> rfl

theorem PortInterface.get_modify_other (pi : PortInterface) (src o : Source) (f : Port → Port) (h : o ≠ src) :
    (pi.modify src f).get o = pi.get o := by
  cases src <;> cases o <;> first | rfl | exact absurd rfl h

@[simp] theorem PortInterface.modify_modify (pi : PortInterface) (src : Source) (f g : Port → Port) :
    (pi.modify src f).modify src g = pi.modify src (fun p => g (f p)) := by cases src <;> rfl

@[simp] theorem PortInterface.modify_miso (pi : PortInterface) (src : Source) (f : Port → Port) :
    (pi.modify src f).miso = pi.miso := by cases src <;> rfl

@[simp] theorem PortInterface.modify_transaction (pi : PortInterface) (src : Source) (f : Port → Port) :
    (pi.modify src f).transaction = pi.transaction := by cases src <;> rfl

@[simp] theorem State.port_modifyPort_same (s : State) (src : Source) (f : Port → Port) :
    (s.modifyPort src f).port src = f (s.port src) := PortInterface.get_modify_same _ _ _

theorem State.port_modifyPort_other (s : State) (src o : Source) (f : Port → Port) (h : o ≠ src) :
    (s.modifyPort src f).port o = s.port o := PortInterface.get_modify_other _ _ _ _ h

/-- Changing a port record to itself changes nothing. -/
theorem State.modifyPort_id (s : State) (src : Source) (f : Port → Port) (h : f (s.port src) = s.port src) :
    s.modifyPort src f = s := by
  cases src <;> simp [State.port, PortInterface.get] at h <;>
    simp [State.modifyPort, PortInterface.modify, State.withPorts, h]

@[simp] theorem State.modifyPort_modifyPort (s : State) (src : Source) (f g : Port → Port) :
    (s.modifyPort src f).modifyPort src g = s.modifyPort src (fun p => g (f p)) := by
  simp [State.modifyPort]

/-- The event sets after an event is raised for all. -/
theorem State.port_raiseAll (s : State) (e : Event) (src : Source) :
    (s.raiseAll e).port src = (s.port src).raise e := by cases src <;> rfl

/-- A port record after its owner's answer. -/
theorem State.port_answer_same (s : State) (src : Source) (c : Command) (a : Answer) :
    (s.answer src c a).port src
      = if src = .player then ({ s.port src with condition := .answered }.fill .reply ⟨c.code, a⟩)
        else ({ s.port src with condition := .answered }.fill .reply ⟨c.code, a⟩).beginSending := by
  unfold State.answer State.put
  rw [State.port_modifyPort_same, State.port_modifyPort_same]

theorem State.port_answer_other (s : State) (src o : Source) (c : Command) (a : Answer) (h : o ≠ src) :
    (s.answer src c a).port o = s.port o := by
  unfold State.answer State.put
  rw [State.port_modifyPort_other _ _ _ _ h, State.port_modifyPort_other _ _ _ _ h]

theorem State.port_route_same (s : State) (src : Source) (c : Command) :
    (s.route src c).port src = { s.port src with condition := .outstanding c.code } :=
  State.port_modifyPort_same _ _ _

theorem State.port_route_other (s : State) (src o : Source) (c : Command) (h : o ≠ src) :
    (s.route src c).port o = s.port o := State.port_modifyPort_other _ _ _ _ h

/-- Routing a command leaves every port's rights. -/
@[simp] theorem State.rights_route (s : State) (src o : Source) (c : Command) :
    ((s.route src c).port o).rights = (s.port o).rights := by
  by_cases h : o = src
  · subst h; rw [State.port_route_same]
  · rw [State.port_route_other _ _ _ _ h]

@[simp] theorem State.rightsOf_route (s : State) (src o : Source) (c : Command) :
    (s.route src c).rightsOf o = s.rightsOf o := by simp [State.rightsOf]

@[simp] theorem State.rightsOf_withQm (s : State) (q : QueueManager) (o : Source) :
    (s.withQm q).rightsOf o = s.rightsOf o := rfl

/-! ### Commands at their ports (R163) -/

/-- A command that its port takes is routed and handed to its owner. -/
theorem State.command_of_accepts {s : State} {src : Source} {c : Command} (h : s.accepts src c)
    (owner : State → State) : s.command src c true owner = owner (s.route src c) := by
  obtain ⟨hr, hf, ha⟩ := h
  simp [State.command, hr, Port.busy, hf, ha]

/-- All that a command at its port can do. -/
theorem State.command_cases (s : State) (src : Source) (c : Command) (ok : Bool) (owner : State → State) :
    s.command src c ok owner = s ∨ (∃ why, s.command src c ok owner = s.refuse src c.code why)
      ∨ (s.accepts src c ∧ ok = true ∧ s.command src c ok owner = owner (s.route src c)) := by
  unfold State.command State.accepts
  split
  · exact .inl rfl
  · split
    · exact .inr (.inl ⟨_, rfl⟩)
    · split
      · split
        · refine .inr (.inr ⟨⟨?_, ?_, ?_⟩, ?_, rfl⟩) <;> simp_all [Port.busy]
        · exact .inr (.inl ⟨_, rfl⟩)
      · exact .inr (.inl ⟨_, rfl⟩)

/-- All that a port refusal can do. -/
theorem State.refuse_cases (s : State) (src : Source) (code : Byte) (why : ReplyCode) :
    ((s.port src).refusalPlace.isSome = true ∧ s.refuse src code why = s)
      ∨ ((s.port src).refusalPlace = none
          ∧ s.refuse src code why = s.put src .refusal ⟨code, { code := why }⟩) := by
  unfold State.refuse
  cases h : (s.port src).refusalPlace <;> simp

/-- Outside reset a step is taken. -/
theorem State.outsideReset_of {s : State} (h : s.inReset = false) (f : State → State) :
    s.outsideReset f = f s := by simp [State.outsideReset, h]

/-! ### The QM's waiting work (chapter 2) -/

/-- All that an arrival can do: the QM takes it, or it waits where its kind waits. -/
theorem State.arrive_cases (s : State) (op : Operation) :
    (s.qm.inFlight = none ∧ s.arrive op = s.take op)
      ∨ (s.qm.inFlight ≠ none ∧
          ((∃ item, op = .edit item ∧ s.arrive op = s.withQm { s.qm with backlog := s.qm.backlog ++ [item] })
            ∨ (op = .takeNext ∧ s.arrive op = s.withQm { s.qm with takeNext := some s.qm.backlog.length })
            ∨ ∃ n, op = .notice n ∧ s.arrive op = s.withQm { s.qm with notices := s.qm.notices ++ [n] })) := by
  unfold State.arrive
  cases h : s.qm.inFlight <;> cases op <;> simp

/-- An arrival leaves the applied queue. -/
theorem State.arrive_sameApplied (s : State) (op : Operation) : (s.arrive op).qm.sameApplied s.qm := by
  unfold State.arrive QueueManager.sameApplied
  split
  · exact ⟨rfl, rfl, rfl, rfl⟩
  · cases op <;> exact ⟨rfl, rfl, rfl, rfl⟩

/-- An arrival leaves the confirmations on their way. -/
theorem State.arrive_toStage (s : State) (op : Operation) : (s.arrive op).qm.toStage = s.qm.toStage := by
  unfold State.arrive
  split
  · rfl
  · cases op <;> rfl

/-- The arbiter leaves the applied queue. -/
theorem State.arbitrate_sameApplied (s : State) : s.arbitrate.qm.sameApplied s.qm := by
  unfold State.arbitrate State.takeOldestEdit QueueManager.sameApplied
  split
  · exact ⟨rfl, rfl, rfl, rfl⟩
  · repeat' split
    all_goals exact ⟨rfl, rfl, rfl, rfl⟩

/-- The arbiter leaves the confirmations on their way. -/
theorem State.arbitrate_toStage (s : State) : s.arbitrate.qm.toStage = s.qm.toStage := by
  unfold State.arbitrate State.takeOldestEdit
  split
  · rfl
  · repeat' split
    all_goals rfl

/-! ### The interlude hold (R132) -/

/-- A change to EMPTY or CARD keeps the hold. -/
@[simp] theorem LyricRenderer.emptied_holdOn (r : LyricRenderer) (mode : DisplayMode) :
    (r.emptied mode).holdOn = r.holdOn := rfl

/-- A stage reset clears it. -/
@[simp] theorem LyricRenderer.stageReset_holdOn (r : LyricRenderer) : r.stageReset.holdOn = false := rfl

/-- A frame start finds it: by R123 in the ROWS mode, off outside it. -/
theorem State.lyricFrame_holdOn (s : State) (k : LayoutKey) :
    (s.lyricFrame k).lr.holdOn
      = ((s.relayout k).lr.mode == .rows
          && ((s.relayout k).lyricInputs (s.relayout k).sc.songTime).holds) := by
  unfold State.lyricFrame
  by_cases h : (s.relayout k).lr.mode = .rows <;> simp [h, LyricRenderer.rowsFrame]

/-! ### What fits in a reply (R26) -/

/-- The leading items that fit: the longest leading run within the bytes. -/
theorem leadingThatFit_eq (left : Nat) (items : List (List Byte)) :
    ∃ k ≤ items.length, leadingThatFit left items = items.take k ∧ (items.take k).flatten.length ≤ left
      ∧ (k < items.length → left < (items.take (k + 1)).flatten.length) := by
  induction items generalizing left with
  | nil => exact ⟨0, Nat.le_refl _, rfl, Nat.zero_le _, fun h => absurd h (Nat.lt_irrefl _)⟩
  | cons x rest ih =>
    unfold leadingThatFit
    by_cases hx : x.length ≤ left
    · obtain ⟨k, hk, he, hl, hn⟩ := ih (left - x.length)
      refine ⟨k + 1, Nat.succ_le_succ hk, ?_, ?_, fun h => ?_⟩
      · rw [if_pos hx, he, List.take_succ_cons]
      · simp only [List.take_succ_cons, List.flatten_cons, List.length_append]; omega
      · have := hn (Nat.lt_of_succ_lt_succ h)
        simp only [List.take_succ_cons, List.flatten_cons, List.length_append]; omega
    · refine ⟨0, Nat.zero_le _, by rw [if_neg hx]; rfl, Nat.zero_le _, fun _ => ?_⟩
      simp; omega

/-! ### The song clock (R70) -/

/-- All that a millisecond of the clock can do: the four ways, each by `StageController.moved`. -/
theorem StageController.advance_cases (c : StageController) :
    (c.remainder + c.tempo < 100 ∧ c.advance = c.moved 0 (c.remainder + c.tempo))
      ∨ (100 ≤ c.remainder + c.tempo ∧ c.remainder + c.tempo < 200
          ∧ c.advance = c.moved 1 (c.remainder + c.tempo - 100))
      ∨ (200 ≤ c.remainder + c.tempo ∧ Config.tempoCarry (c.remainder + c.tempo) = none
          ∧ c.advance = c.moved 2 (c.remainder + c.tempo - 200))
      ∨ ∃ r : Fin 100, 200 ≤ c.remainder + c.tempo ∧ Config.tempoCarry (c.remainder + c.tempo) = some r
          ∧ c.advance = c.moved 1 r := by
  unfold StageController.advance
  by_cases h1 : c.remainder + c.tempo < 100
  · simp [h1]
  · by_cases h2 : c.remainder + c.tempo < 200
    · simp [h1, h2]; omega
    · cases h3 : Config.tempoCarry (c.remainder + c.tempo) <;> simp [h1, h2, h3] <;> omega

/-! ### The Player transaction and the panel transmitter (R158, R159, R162) -/

/-- A byte in a transaction that reads: a byte of the reply, the last of which delivers it, then 0xFF. -/
theorem State.clockByte_reading (s : State) (pl : Place) (left : List Byte) (b : Byte)
    (h : s.ports.transaction = some (.reading pl left)) :
    (∃ x y rest, left = x :: y :: rest ∧ s.clockByte b = s.shift [x] (.reading pl (y :: rest)))
      ∨ (∃ x, left = [x] ∧ s.clockByte b = (s.shift [x] .spent).modifyPort .player (fun p => p.deliver pl))
      ∨ (left = [] ∧ s.clockByte b = s.shift [0xFF#8] .spent) := by
  unfold State.clockByte
  rw [h]
  match left with
  | [] => simp
  | [x] => simp
  | x :: y :: rest => simp

/-- All that sending can do: nothing, fewer bytes left, or the reply delivered and the next begun. -/
theorem Port.send_cases (p : Port) (count : Nat) :
    (p.transmitter = none ∧ p.send count = p)
      ∨ ∃ t, p.transmitter = some t
          ∧ ((count < t.left.length
                ∧ p.send count
                  = { p with transmitter := some { t with left := t.left.drop count }, sent := t.left.take count })
              ∨ (t.left.length ≤ count
                  ∧ p.send count
                    = ({ p with transmitter := none, sent := t.left }.deliver t.place).beginSending)) := by
  unfold Port.send
  cases h : p.transmitter with
  | none => simp
  | some t =>
    by_cases hc : t.left.length ≤ count
    · simp [hc]
    · simp [hc]; omega

/-! ### The queue as a list (R3) -/

/-- Taking a list apart at the end of a leading run and putting an entry there keeps every entry. -/
theorem perm_takeWhile_cons_dropWhile {α : Type} (p : α → Bool) (q : List α) (e : α) :
    (q.takeWhile p ++ e :: q.dropWhile p).Perm (e :: q) := by
  have h := List.perm_middle (a := e) (l₁ := q.takeWhile p) (l₂ := q.dropWhile p)
  rwa [List.takeWhile_append_dropWhile] at h

theorem joinPriorityHead_perm (q : List Entry) (e : Entry) : (joinPriorityHead q e).Perm (e :: q) :=
  perm_takeWhile_cons_dropWhile _ _ _

theorem joinPriorityTail_perm (q : List Entry) (e : Entry) : (joinPriorityTail q e).Perm (e :: q) :=
  perm_takeWhile_cons_dropWhile _ _ _

theorem joinNormalTail_perm (q : List Entry) (e : Entry) : (joinNormalTail q e).Perm (e :: q) := by
  unfold joinNormalTail
  exact List.perm_append_singleton e q

theorem joinAfterPlaying_perm (q : List Entry) (e : Entry) : (joinAfterPlaying q e).Perm (e :: q) :=
  perm_takeWhile_cons_dropWhile _ _ _

theorem joinClassHead_perm (q : List Entry) (e : Entry) : (joinClassHead q e).Perm (e :: q) := by
  unfold joinClassHead
  split
  · exact joinPriorityHead_perm q e
  · exact joinPriorityTail_perm q e

theorem mem_removeTicket {q : List Entry} {t : Nat} {e : Entry} :
    e ∈ removeTicket q t ↔ e ∈ q ∧ e.ticket ≠ t := by
  simp [removeTicket]

/-- An update by a function that keeps tickets keeps the list of tickets. -/
theorem map_ticket_updateTicket (q : List Entry) (t : Nat) (f : Entry → Entry)
    (h : ∀ e, e.ticket = t → (f e).ticket = t) :
    (updateTicket q t f).map (fun e => e.ticket) = q.map (fun e => e.ticket) := by
  induction q with
  | nil => rfl
  | cons e rest ih =>
    simp only [updateTicket, List.map_cons, List.cons.injEq] at ih ⊢
    refine ⟨?_, ih⟩
    split
    · rename_i he; rw [h e he, he]
    · rfl

/-- The entry found by a ticket carries it. -/
theorem ticket_of_findTicket {q : List Entry} {t : Nat} {e : Entry} (h : findTicket q t = some e) :
    e ∈ q ∧ e.ticket = t := by
  unfold findTicket at h
  exact ⟨List.mem_of_find?_eq_some h, by simpa using List.find?_some h⟩

/-! ### The cue slots (R44) -/

@[simp] theorem SongLoader.get_set_same (sl : SongLoader) (n : SlotName) (c : Slot) : (sl.set n c).get n = c := by
  cases n <;> rfl

theorem SongLoader.get_set_other (sl : SongLoader) (n m : SlotName) (c : Slot) (h : m ≠ n) :
    (sl.set n c).get m = sl.get m := by
  cases n <;> cases m <;> first | rfl | exact absurd rfl h

@[simp] theorem SongLoader.set_inFlight (sl : SongLoader) (n : SlotName) (c : Slot) :
    (sl.set n c).inFlight = sl.inFlight := by cases n <;> rfl

/-- The slot a dropping operation leaves is the one it found, or EMPTY. -/
theorem State.dropSlots_slot (s : State) (test : Slot → Bool) (n : SlotName) :
    (s.dropSlots test).sl.get n = if test (s.sl.get n) then .empty else s.sl.get n := by
  unfold State.dropSlots
  split <;> cases n <;> rfl

/-- The LOADING slot is LOADING. -/
theorem SongLoader.get_of_loadingSlot {sl : SongLoader} {n : SlotName} {l : Load}
    (h : sl.loadingSlot = some (n, l)) : sl.get n = .loading l := by
  unfold SongLoader.loadingSlot at h
  split at h
  · rename_i x hx
    cases hA : sl.slotA <;> simp_all [Slot.load]
    obtain ⟨rfl, rfl⟩ := h; simp [SongLoader.get, hA]
  · rename_i x hx hy
    cases hB : sl.slotB <;> simp_all [Slot.load]
    obtain ⟨rfl, rfl⟩ := h; simp [SongLoader.get, hB]
  · cases h

/-! ### The glyph table (R110, R111) -/

/-- A place of the table read after a load. -/
theorem glyphAt_loadGlyph (g : GlyphPlace) (table : List GlyphPlace) (h : glyphTableWf table) (code : Nat) :
    glyphAt (loadGlyph g table) code = if code = g.code then some g.glyph else glyphAt table code := by
  obtain ⟨hp, -⟩ := h
  induction table with
  | nil =>
    by_cases hc : code = g.code
    · simp [loadGlyph, glyphAt, hc]
    · have : ¬ g.code = code := fun k => hc k.symm
      simp [loadGlyph, glyphAt, hc, this]
  | cons p rest ih =>
    simp only [List.map_cons, List.pairwise_cons, List.mem_map, forall_exists_index, and_imp,
      forall_apply_eq_imp_iff₂] at hp
    obtain ⟨h1, h2⟩ := hp
    have ih := ih h2
    unfold loadGlyph
    split
    · by_cases hc : code = g.code
      · simp [glyphAt, hc]
      · have : ¬ g.code = code := fun k => hc k.symm
        simp [glyphAt, hc, this]
    · split
      · rename_i _ he
        by_cases hc : code = g.code
        · simp [glyphAt, hc]
        · have hg : ¬ g.code = code := fun k => hc k.symm
          have hq : ¬ p.code = code := fun k => hc (k.symm.trans he.symm)
          simp [glyphAt, hc, hg, hq]
      · rename_i hlt hne
        by_cases hq : p.code = code
        · have hc : ¬ code = g.code := fun k => hne (k.symm.trans hq.symm)
          simp [glyphAt, hq, hc]
        · simp only [glyphAt] at ih
          simp [glyphAt, hq, ih]

/-- Loading a place with a code in range keeps the table's canonical form. -/
theorem glyphTableWf_loadGlyph (g : GlyphPlace) (table : List GlyphPlace) (hg : g.code ≤ 1023)
    (h : glyphTableWf table) : glyphTableWf (loadGlyph g table) := by
  have key : ∀ table : List GlyphPlace, (table.map (fun p => p.code)).Pairwise (· < ·) →
      ((loadGlyph g table).map (fun p => p.code)).Pairwise (· < ·)
        ∧ ∀ p ∈ loadGlyph g table, p = g ∨ p ∈ table := by
    intro table
    induction table with
    | nil => intro _; simp [loadGlyph]
    | cons p rest ih =>
      intro hp
      have hp' := hp
      simp only [List.map_cons, List.pairwise_cons, List.mem_map, forall_exists_index, and_imp,
        forall_apply_eq_imp_iff₂] at hp
      obtain ⟨h1, h2⟩ := hp
      obtain ⟨i1, i2⟩ := ih h2
      unfold loadGlyph
      split
      · rename_i hlt
        refine ⟨?_, by simp⟩
        simp only [List.map_cons, List.pairwise_cons, List.mem_cons, List.mem_map, forall_eq_or_imp,
          forall_exists_index, and_imp, forall_apply_eq_imp_iff₂]
        exact ⟨⟨hlt, fun a ha => lt_trans hlt (h1 a ha)⟩, h1, h2⟩
      · split
        · rename_i _ he
          refine ⟨?_, ?_⟩
          · simp only [List.map_cons, List.pairwise_cons, List.mem_map, forall_exists_index, and_imp,
              forall_apply_eq_imp_iff₂]
            exact ⟨fun a ha => by rw [he]; exact h1 a ha, h2⟩
          · intro q hq
            rcases List.mem_cons.1 hq with rfl | hq
            · exact .inl rfl
            · exact .inr (List.mem_cons_of_mem _ hq)
        · rename_i hlt hne
          refine ⟨?_, ?_⟩
          · simp only [List.map_cons, List.pairwise_cons, List.mem_map, forall_exists_index, and_imp,
              forall_apply_eq_imp_iff₂]
            refine ⟨fun a ha => ?_, i1⟩
            rcases i2 a ha with rfl | ha
            · omega
            · exact h1 a ha
          · intro q hq
            rcases List.mem_cons.1 hq with rfl | hq
            · exact .inr List.mem_cons_self
            · rcases i2 q hq with rfl | hq
              · exact .inl rfl
              · exact .inr (List.mem_cons_of_mem _ hq)
  obtain ⟨h1, h2⟩ := key table h.1
  refine ⟨h1, fun p hp => ?_⟩
  rcases h2 p hp with rfl | hp
  · exact hg
  · exact h.2 p hp

end Sys2Proof.Machine
end

