-- ==== Sys2Proof/Laws/PerInstr.lean ====
section
/-! SUPPORT. What holds of every command as syntax, one lemma per constructor: the frame of a well-formed command has a
length that the availability table takes, and its length byte holds it. -/

namespace Sys2Proof.Laws

open Sys2Proof.Machine

theorem be1_length (n : Nat) : (be1 n).length = 1 := rfl
theorem be2_length (n : Nat) : (be2 n).length = 2 := rfl
theorem be3_length (n : Nat) : (be3 n).length = 3 := rfl
theorem encSigned_length (k : Int) : (encSigned k).length = 1 := rfl
theorem encRoster_length (n : Option Nat) : (encRoster n).length = 1 := rfl
theorem encProfileValue_length (v : Int) : (encProfileValue v).length = 2 := rfl

theorem flatMap_be2_length (text : List Nat) : (text.flatMap be2).length = 2 * text.length := by
  induction text with
  | nil => rfl
  | cons c cs ih => simp only [List.flatMap_cons, List.length_append, List.length_cons, be2_length, ih]; omega

theorem encText_length (text : List Nat) : (encText text).length = 1 + 2 * text.length := by
  simp only [encText, List.length_append, be1_length, flatMap_be2_length]

theorem addBytes_length (p : AddParams) : (addBytes p).length = 10 + 2 * p.title.length := by
  simp only [addBytes, List.length_append, be1_length, be3_length, encText_length, encSigned_length, encRoster_length]
  omega

theorem glyphBytes_length (p : GlyphParams) : (glyphBytes p).length = 4 + 4 * p.rows.length := by
  have rows : ∀ l : List MaskRow, (l.flatMap rowBytes).length = 4 * l.length := by
    intro l
    induction l with
    | nil => rfl
    | cons r rs ih =>
      simp only [List.flatMap_cons, rowBytes, List.length_append, List.length_cons, be2_length, ih]; omega
  simp only [glyphBytes, List.length_append, be1_length, be2_length, rows]

/-- The count byte of a glyph text is read back (R169). -/
theorem paramAt_encText (front back : List Byte) (text : List Nat) (fits : text.length < 256) :
    paramAt (front ++ (encText text ++ back)) front.length 1 = text.length := by
  simp [paramAt, encText, be1, beValue, Nat.mod_eq_of_lt fits]

namespace OperandsFit

/-- The frame of a well-formed command has a length the availability table takes, and one byte holds it (R163, R168). -/
def Statement (i : Instr) : Prop :=
  i.wellFormed = true → ∀ f, commandFrame i = some f → f.command.lengthOk f.params = true ∧ f.params.length ≤ 250

theorem add (src : Source) (p : AddParams) : Statement (.add src p) := by
  intro h f hf
  obtain rfl := Option.some.inj hf
  simp [Instr.wellFormed, AddParams.wellFormed, fitsText, fitsBytes] at h
  have count : paramAt (addBytes p) 3 1 = p.title.length := by
    simpa [addBytes, be3] using paramAt_encText (be3 p.song)
      (encRoster p.singer ++ encRoster p.partner ++ be1 p.duet ++ encSigned p.startKey ++ be1 p.tempo
        ++ be1 p.wantsPriority) p.title (by omega)
  simp only [Command.lengthOk, count, addBytes_length]
  exact ⟨by simp, by omega⟩

theorem withdraw (src : Source) (ticket : Nat) : Statement (.withdraw src ticket) := by
  intro _ f hf
  obtain rfl := Option.some.inj hf
  exact ⟨rfl, Nat.le_of_ble_eq_true rfl⟩

theorem hold (src : Source) (ticket : Nat) : Statement (.hold src ticket) := by
  intro _ f hf
  obtain rfl := Option.some.inj hf
  exact ⟨rfl, Nat.le_of_ble_eq_true rfl⟩

theorem release (src : Source) (ticket : Nat) : Statement (.release src ticket) := by
  intro _ f hf
  obtain rfl := Option.some.inj hf
  exact ⟨rfl, Nat.le_of_ble_eq_true rfl⟩

theorem raise (src : Source) (ticket : Nat) : Statement (.raise src ticket) := by
  intro _ f hf
  obtain rfl := Option.some.inj hf
  exact ⟨rfl, Nat.le_of_ble_eq_true rfl⟩

theorem lower (src : Source) (ticket : Nat) : Statement (.lower src ticket) := by
  intro _ f hf
  obtain rfl := Option.some.inj hf
  exact ⟨rfl, Nat.le_of_ble_eq_true rfl⟩

theorem singerAdd (src : Source) (name : List Nat) : Statement (.singerAdd src name) := by
  intro h f hf
  obtain rfl := Option.some.inj hf
  simp [Instr.wellFormed, fitsText, fitsBytes] at h
  have count : paramAt (encText name) 0 1 = name.length := by simpa using paramAt_encText [] [] name (by omega)
  simp only [Command.lengthOk, count, encText_length]
  exact ⟨by simp, by omega⟩

theorem singerDrop (src : Source) (number : Nat) : Statement (.singerDrop src number) := by
  intro _ f hf
  obtain rfl := Option.some.inj hf
  exact ⟨rfl, Nat.le_of_ble_eq_true rfl⟩

theorem clearQueue (src : Source) : Statement (.clearQueue src) := by
  intro _ f hf
  obtain rfl := Option.some.inj hf
  exact ⟨rfl, Nat.le_of_ble_eq_true rfl⟩

theorem uncue (src : Source) : Statement (.uncue src) := by
  intro _ f hf
  obtain rfl := Option.some.inj hf
  exact ⟨rfl, Nat.le_of_ble_eq_true rfl⟩

theorem takeNext (src : Source) : Statement (.takeNext src) := by
  intro _ f hf
  obtain rfl := Option.some.inj hf
  exact ⟨rfl, Nat.le_of_ble_eq_true rfl⟩

theorem addApplied : Statement .addApplied := fun _ _ hf => nomatch hf

theorem withdrawApplied : Statement .withdrawApplied := fun _ _ hf => nomatch hf

theorem holdApplied : Statement .holdApplied := fun _ _ hf => nomatch hf

theorem releaseApplied : Statement .releaseApplied := fun _ _ hf => nomatch hf

theorem raiseApplied : Statement .raiseApplied := fun _ _ hf => nomatch hf

theorem lowerApplied : Statement .lowerApplied := fun _ _ hf => nomatch hf

theorem clearQueueApplied : Statement .clearQueueApplied := fun _ _ hf => nomatch hf

theorem singerAddApplied : Statement .singerAddApplied := fun _ _ hf => nomatch hf

theorem singerDropApplied : Statement .singerDropApplied := fun _ _ hf => nomatch hf

theorem uncueApplied : Statement .uncueApplied := fun _ _ hf => nomatch hf

theorem takeNextApplied : Statement .takeNextApplied := fun _ _ hf => nomatch hf

theorem startNoticeApplied : Statement .startNoticeApplied := fun _ _ hf => nomatch hf

theorem retireNoticeApplied : Statement .retireNoticeApplied := fun _ _ hf => nomatch hf

theorem resetNoticeApplied : Statement .resetNoticeApplied := fun _ _ hf => nomatch hf

theorem list (src : Source) (position count : Nat) : Statement (.list src position count) := by
  intro _ f hf
  obtain rfl := Option.some.inj hf
  exact ⟨rfl, Nat.le_of_ble_eq_true rfl⟩

theorem query (src : Source) (ticket : Nat) : Statement (.query src ticket) := by
  intro _ f hf
  obtain rfl := Option.some.inj hf
  exact ⟨rfl, Nat.le_of_ble_eq_true rfl⟩

theorem history (src : Source) (start count : Nat) : Statement (.history src start count) := by
  intro _ f hf
  obtain rfl := Option.some.inj hf
  exact ⟨rfl, Nat.le_of_ble_eq_true rfl⟩

theorem roster (src : Source) (first : Option Nat) : Statement (.roster src first) := by
  intro _ f hf
  obtain rfl := Option.some.inj hf
  cases first <;> simp [Command.lengthOk, be1_length]

theorem loadOpen (src : Source) (ticket count order : Nat) : Statement (.loadOpen src ticket count order) := by
  intro _ f hf
  obtain rfl := Option.some.inj hf
  exact ⟨rfl, Nat.le_of_ble_eq_true rfl⟩

theorem loadData (src : Source) (bytes : List Byte) : Statement (.loadData src bytes) := by
  intro h f hf
  obtain rfl := Option.some.inj hf
  simp [Instr.wellFormed, loadDataLength] at h
  simp [Command.lengthOk, loadDataLength]; omega

theorem loadDataEnd : Statement .loadDataEnd := fun _ _ hf => nomatch hf

theorem loadClose (src : Source) : Statement (.loadClose src) := by
  intro _ f hf
  obtain rfl := Option.some.inj hf
  exact ⟨rfl, Nat.le_of_ble_eq_true rfl⟩

theorem loadAbort (src : Source) : Statement (.loadAbort src) := by
  intro _ f hf
  obtain rfl := Option.some.inj hf
  exact ⟨rfl, Nat.le_of_ble_eq_true rfl⟩

theorem start (src : Source) (ticket offset : Nat) : Statement (.start src ticket offset) := by
  intro _ f hf
  obtain rfl := Option.some.inj hf
  exact ⟨rfl, Nat.le_of_ble_eq_true rfl⟩

theorem startConfirmation : Statement .startConfirmation := fun _ _ hf => nomatch hf

theorem cueLostAnswer : Statement .cueLostAnswer := fun _ _ hf => nomatch hf

theorem pause (src : Source) : Statement (.pause src) := by
  intro _ f hf
  obtain rfl := Option.some.inj hf
  exact ⟨rfl, Nat.le_of_ble_eq_true rfl⟩

theorem resume (src : Source) : Statement (.resume src) := by
  intro _ f hf
  obtain rfl := Option.some.inj hf
  exact ⟨rfl, Nat.le_of_ble_eq_true rfl⟩

theorem stop (src : Source) : Statement (.stop src) := by
  intro _ f hf
  obtain rfl := Option.some.inj hf
  exact ⟨rfl, Nat.le_of_ble_eq_true rfl⟩

theorem sync (src : Source) (time : Nat) : Statement (.sync src time) := by
  intro _ f hf
  obtain rfl := Option.some.inj hf
  exact ⟨rfl, Nat.le_of_ble_eq_true rfl⟩

theorem key (src : Source) (k : Int) : Statement (.key src k) := by
  intro _ f hf
  obtain rfl := Option.some.inj hf
  exact ⟨rfl, Nat.le_of_ble_eq_true rfl⟩

theorem keyStep (src : Source) (direction : Int) : Statement (.keyStep src direction) := by
  intro _ f hf
  obtain rfl := Option.some.inj hf
  exact ⟨rfl, Nat.le_of_ble_eq_true rfl⟩

theorem tempo (src : Source) (p : Nat) : Statement (.tempo src p) := by
  intro _ f hf
  obtain rfl := Option.some.inj hf
  exact ⟨rfl, Nat.le_of_ble_eq_true rfl⟩

theorem skipResult (src : Source) : Statement (.skipResult src) := by
  intro _ f hf
  obtain rfl := Option.some.inj hf
  exact ⟨rfl, Nat.le_of_ble_eq_true rfl⟩

theorem stageReset (src : Source) : Statement (.stageReset src) := by
  intro _ f hf
  obtain rfl := Option.some.inj hf
  exact ⟨rfl, Nat.le_of_ble_eq_true rfl⟩

theorem resetConfirmation : Statement .resetConfirmation := fun _ _ hf => nomatch hf

theorem status (src : Source) : Statement (.status src) := by
  intro _ f hf
  obtain rfl := Option.some.inj hf
  exact ⟨rfl, Nat.le_of_ble_eq_true rfl⟩

theorem timebaseMillisecond : Statement .timebaseMillisecond := fun _ _ hf => nomatch hf

theorem songEnd : Statement .songEnd := fun _ _ hf => nomatch hf

theorem retireConfirmation : Statement .retireConfirmation := fun _ _ hf => nomatch hf

theorem holdTimerExpiry : Statement .holdTimerExpiry := fun _ _ hf => nomatch hf

theorem analysisFrameCompletion (edges : List BitClockEdge) : Statement (.analysisFrameCompletion edges) := fun _ _ hf => nomatch hf

theorem glyphLoad (src : Source) (p : GlyphParams) : Statement (.glyphLoad src p) := by
  intro h f hf
  obtain rfl := Option.some.inj hf
  simp [Instr.wellFormed, GlyphParams.wellFormed] at h
  simp [Command.lengthOk, glyphBytes_length, h]

theorem lyricStatus (src : Source) : Statement (.lyricStatus src) := by
  intro _ f hf
  obtain rfl := Option.some.inj hf
  exact ⟨rfl, Nat.le_of_ble_eq_true rfl⟩

theorem idleText (src : Source) (text : List Nat) : Statement (.idleText src text) := by
  intro h f hf
  obtain rfl := Option.some.inj hf
  simp [Instr.wellFormed, fitsText, fitsBytes] at h
  have count : paramAt (encText text) 0 1 = text.length := by simpa using paramAt_encText [] [] text (by omega)
  simp only [Command.lengthOk, count, encText_length]
  exact ⟨by simp, by omega⟩

theorem zones (src : Source) (ht hl hm : Nat) : Statement (.zones src ht hl hm) := by
  intro _ f hf
  obtain rfl := Option.some.inj hf
  exact ⟨rfl, Nat.le_of_ble_eq_true rfl⟩

theorem videoStatus (src : Source) : Statement (.videoStatus src) := by
  intro _ f hf
  obtain rfl := Option.some.inj hf
  exact ⟨rfl, Nat.le_of_ble_eq_true rfl⟩

theorem inputFrameStart (lines : List Nat) : Statement (.inputFrameStart lines) := fun _ _ hf => nomatch hf

theorem lossTimerExpiry : Statement .lossTimerExpiry := fun _ _ hf => nomatch hf

theorem outputFrameStart : Statement .outputFrameStart := fun _ _ hf => nomatch hf

theorem playerWriteTransaction (mosi : List Byte) (rise : Option (List Bool)) : Statement (.playerWriteTransaction mosi rise) := fun _ _ hf => nomatch hf

theorem playerReadTransaction (clocked : Nat) (rise : Option (List Bool)) : Statement (.playerReadTransaction clocked rise) := fun _ _ hf => nomatch hf

theorem panelFrame (panel : Panel) (bytes : List Byte) : Statement (.panelFrame panel bytes) := fun _ _ hf => nomatch hf

theorem panelLineBreak (panel : Panel) : Statement (.panelLineBreak panel) := fun _ _ hf => nomatch hf

theorem panelReplyDelivery (bytes : SentBytes) : Statement (.panelReplyDelivery bytes) := fun _ _ hf => nomatch hf

theorem rights (src : Source) (port : Nat) (mask : Option Byte) : Statement (.rights src port mask) := by
  intro _ f hf
  obtain rfl := Option.some.inj hf
  cases mask <;> simp [Command.lengthOk, be1_length]

theorem events (src : Source) : Statement (.events src) := by
  intro _ f hf
  obtain rfl := Option.some.inj hf
  exact ⟨rfl, Nat.le_of_ble_eq_true rfl⟩

theorem mask (src : Source) (m : BitVec 16) : Statement (.mask src m) := by
  intro _ f hf
  obtain rfl := Option.some.inj hf
  exact ⟨rfl, Nat.le_of_ble_eq_true rfl⟩

theorem profileSet (src : Source) (field : Nat) (value : Int) : Statement (.profileSet src field value) := by
  intro _ f hf
  obtain rfl := Option.some.inj hf
  exact ⟨rfl, Nat.le_of_ble_eq_true rfl⟩

theorem profileGet (src : Source) (field : Nat) : Statement (.profileGet src field) := by
  intro _ f hf
  obtain rfl := Option.some.inj hf
  exact ⟨rfl, Nat.le_of_ble_eq_true rfl⟩

theorem profileSave (src : Source) : Statement (.profileSave src) := by
  intro _ f hf
  obtain rfl := Option.some.inj hf
  exact ⟨rfl, Nat.le_of_ble_eq_true rfl⟩

theorem profileSaveEnd (matched : Bool) : Statement (.profileSaveEnd matched) := fun _ _ hf => nomatch hf

theorem hardwareReset : Statement .hardwareReset := fun _ _ hf => nomatch hf

theorem endOfReset : Statement .endOfReset := fun _ _ hf => nomatch hf

end OperandsFit

end Sys2Proof.Laws
end

