-- ==== Sys2Proof/Laws/Pitch.lean ====
section
/-! SUPPORT. What the exact numbers of the pitch report stand for: the value of a surd as a real number, and what each of its
operations does to that value. -/

namespace Sys2Proof.Machine

/-- The real number a surd stands for. -/
noncomputable def Surd.value : (rs : List Nat) → Surd rs → ℝ
  | [], x => ((id x : Int) : ℝ)
  | a :: rs, x => Surd.value rs x.1 + Surd.value rs x.2 * Real.sqrt a

theorem Surd.value_ofInt (rs : List Nat) (n : Int) : Surd.value rs (Surd.ofInt rs n) = n := by
  induction rs generalizing n with
  | nil => rfl
  | cons a rs ih => simp [Surd.value, Surd.ofInt, ih]

theorem Surd.value_add (rs : List Nat) (x y : Surd rs) :
    Surd.value rs (Surd.add rs x y) = Surd.value rs x + Surd.value rs y := by
  induction rs with
  | nil => exact Int.cast_add (R := ℝ) x y
  | cons a rs ih => simp only [Surd.value, Surd.add, ih]; ring

theorem Surd.value_scale (rs : List Nat) (k : Int) (x : Surd rs) :
    Surd.value rs (Surd.scale rs k x) = k * Surd.value rs x := by
  induction rs with
  | nil => exact Int.cast_mul (α := ℝ) k x
  | cons a rs ih => simp only [Surd.value, Surd.scale, ih]; ring

theorem Surd.value_mul (rs : List Nat) (x y : Surd rs) :
    Surd.value rs (Surd.mul rs x y) = Surd.value rs x * Surd.value rs y := by
  induction rs with
  | nil => exact Int.cast_mul (α := ℝ) x y
  | cons a rs ih =>
    have h : Real.sqrt a * Real.sqrt a = a := Real.mul_self_sqrt (Nat.cast_nonneg a)
    simp only [Surd.value, Surd.mul, Surd.value_add, Surd.value_scale, ih, Int.cast_natCast]
    linear_combination (-(Surd.value rs x.2 * Surd.value rs y.2)) * h

theorem Surd.value_root (rs : List Nat) (i : Nat) (k : Int) :
    Surd.value rs (Surd.root rs i k) = match rs[i]? with | some a => k * Real.sqrt a | none => 0 := by
  induction rs generalizing i with
  | nil => simp [Surd.value, Surd.root]
  | cons a rs ih =>
    cases i with
    | zero => simp [Surd.value, Surd.root, Surd.value_ofInt]
    | succ i => simp [Surd.value, Surd.root, Surd.value_ofInt, ih]

theorem Surd.value_pow (rs : List Nat) (x : Surd rs) (n : Nat) :
    Surd.value rs (Surd.pow rs x n) = Surd.value rs x ^ n := by
  have key : ∀ (bits : List Bool) (acc : Surd rs) (m : Nat), Surd.value rs acc = Surd.value rs x ^ m →
      Surd.value rs (bits.foldl
          (fun acc b =>
            let q := Surd.mul rs acc acc
            if b then Surd.mul rs q x else q) acc)
        = Surd.value rs x ^ (bits.foldl (fun m b => 2 * m + b.toNat) m) := by
    intro bits
    induction bits with
    | nil => intro acc m h; exact h
    | cons b rest ih =>
      intro acc m h
      rw [List.foldl_cons, List.foldl_cons]
      refine ih _ _ ?_
      cases b <;> simp [Surd.value_mul, h, pow_add, two_mul]
  have bits : ∀ n : Nat, n.bits.reverse.foldl (fun m b => 2 * m + b.toNat) 0 = n := by
    intro n
    rw [List.foldl_reverse]
    induction n using Nat.binaryRec' with
    | zero => simp
    | bit b n hn ih =>
      rw [Nat.bits_append_bit n b hn, List.foldr_cons, ih, Nat.bit_val]
  unfold Surd.pow
  rw [key _ _ 0 (by rw [Surd.value_ofInt]; simp), bits]

/-- The sign of x + y, from the signs of x, of y and of x² - y². -/
theorem sign_add_of_squares (x y : ℝ) :
    SignType.sign (x + y)
      = if SignType.sign x = 0 then SignType.sign y
        else if SignType.sign y = 0 ∨ SignType.sign x = SignType.sign y then SignType.sign x
        else SignType.sign x * SignType.sign (x ^ 2 - y ^ 2) := by
  rcases lt_trichotomy x 0 with hx | rfl | hx
  · rcases lt_trichotomy y 0 with hy | rfl | hy
    · simp [sign_neg hx, sign_neg hy, sign_neg (add_neg hx hy)]
    · simp [sign_neg hx]
    · rw [show x ^ 2 - y ^ 2 = (y - x) * -(x + y) by ring, sign_mul, Left.sign_neg, sign_pos (by linarith : 0 < y - x)]
      simp [sign_neg hx, sign_pos hy]
  · simp
  · rcases lt_trichotomy y 0 with hy | rfl | hy
    · rw [show x ^ 2 - y ^ 2 = (x - y) * (x + y) by ring, sign_mul, sign_pos (by linarith : 0 < x - y)]
      simp [sign_pos hx, sign_neg hy]
    · simp [sign_pos hx]
    · simp [sign_pos hx, sign_pos hy, sign_pos (add_pos hx hy)]

/-- The sign of a surd is the sign of its value. -/
theorem Surd.sign_eq (rs : List Nat) (x : Surd rs) : Surd.sign rs x = (SignType.sign (Surd.value rs x) : Int) := by
  induction rs with
  | nil =>
    have h : ∀ n : Int, Int.sign n = (SignType.sign (n : ℝ) : Int) := fun n => by
      rcases lt_trichotomy n 0 with h | rfl | h
      · rw [Int.sign_eq_neg_one_of_neg h, sign_neg (by exact_mod_cast h)]; rfl
      · simp
      · rw [Int.sign_eq_one_of_pos h, sign_pos (by exact_mod_cast h)]; rfl
    exact h x
  | cons a rs ih =>
    have inj : ∀ s t : SignType, ((s : Int) = (t : Int)) ↔ s = t := by decide
    have inj0 : ∀ s : SignType, ((s : Int) = 0) ↔ s = 0 := by decide
    have mul : ∀ s t : SignType, ((s : Int) * (t : Int)) = ((s * t : SignType) : Int) := by decide
    have hr : Real.sqrt a * Real.sqrt a = a := Real.mul_self_sqrt (Nat.cast_nonneg a)
    have hy : (if a = 0 then 0 else Surd.sign rs x.2)
        = (SignType.sign (Surd.value rs x.2 * Real.sqrt a) : Int) := by
      by_cases ha : a = 0
      · simp [ha]
      · have hp : 0 < Real.sqrt a := Real.sqrt_pos.2 (by exact_mod_cast Nat.pos_of_ne_zero ha)
        rw [if_neg ha, ih, sign_mul, sign_pos hp, mul_one]
    have hsq : Surd.value rs x.1 ^ 2 - (Surd.value rs x.2 * Real.sqrt a) ^ 2
        = Surd.value rs (Surd.add rs (Surd.mul rs x.1 x.1) (Surd.scale rs (-(a : Int)) (Surd.mul rs x.2 x.2))) := by
      simp only [Surd.value_add, Surd.value_mul, Surd.value_scale, Int.cast_neg, Int.cast_natCast]
      linear_combination (-(Surd.value rs x.2 ^ 2)) * hr
    show (if Surd.sign rs x.1 = 0 then (if a = 0 then 0 else Surd.sign rs x.2) else _) = _
    rw [hy]
    simp only [Surd.value, sign_add_of_squares, hsq, ih, inj0, inj, mul]
    split
    · rfl
    · split <;> rfl

/-- Once an I2S frame has begun, the receiver moves on and nothing is latched. -/
theorem PitchTracker.received_of_begun (p : PitchTracker) (r : I2sReceiver) (k : Int) (h : p.receiver.begun = true) :
    p.received r k = { p with receiver := r } := by simp [PitchTracker.received, h]

/-- A search that halves its distance finds the last number that passes a downward-closed test. -/
theorem searchLast_spec (test : Nat → Bool) (down : ∀ i j, i ≤ j → test j = true → test i = true) :
    ∀ (n lo hi : Nat), test lo = true → test hi = false → hi - lo ≤ 2 ^ n →
      test (searchLast test n lo hi) = true ∧ test (searchLast test n lo hi + 1) = false := by
  intro n
  induction n with
  | zero =>
    intro lo hi hlo hhi hd
    have hlt : lo < hi := by
      by_contra h
      rw [down hi lo (not_lt.1 h) hlo] at hhi
      exact Bool.noConfusion hhi
    obtain rfl : hi = lo + 1 := by simp at hd; omega
    exact ⟨hlo, hhi⟩
  | succ n ih =>
    intro lo hi hlo hhi hd
    have hlt : lo < hi := by
      by_contra h
      rw [down hi lo (not_lt.1 h) hlo] at hhi
      exact Bool.noConfusion hhi
    unfold searchLast
    rw [pow_succ] at hd
    split
    · obtain rfl : hi = lo + 1 := by omega
      exact ⟨hlo, hhi⟩
    · split
      · exact ih _ _ (by assumption) hhi (by omega)
      · exact ih _ _ hlo (by simpa using ‹¬ test ((lo + hi) / 2) = true›) (by omega)

end Sys2Proof.Machine
end

