-- ==== Sys2Proof/Tests/Slice0.lean ====
section
/-! SUPPORT. Own checks of the model: the refusals of WellFormed, one or two steps of each command with results taken
from the spec's tables and worked examples, and, for each statement with hypotheses, states that meet them. -/

namespace Sys2Proof.Tests

open Sys2Proof.Machine

/-! ### Helpers -/

/-- The state a step answers. -/
def after (r : Result) : State :=
  match r with
  | .next t => t
  | .fault f => nomatch f
  | .refused _ => State.reset

/-- A plain entry: one vote of panel 1, key 0, tempo 100. -/
def entry (ticket song : Nat) (state : EntryState) (cls : EntryClass := .normal) : Entry where
  ticket := ticket
  song := song
  title := []
  requesters := [⟨.panel1, 1⟩]
  singer := none
  partner := none
  duet := false
  startKey := 0
  tempo := 100
  cls := cls
  state := state
  holder := if state = .held then some .panel1 else none

/-- The part after reset with these entries queued. -/
def room (queue : List Entry) : State := State.reset.withQm { QueueManager.afterReset with queue := queue }

/-- The same with an operation in flight. -/
def applying (op : Operation) (queue : List Entry) (rights : BitVec 4 := 0b1000#4) (threshold : Nat := 0) : State :=
  State.reset.withQm { QueueManager.afterReset with queue := queue, inFlight := some ⟨op, rights, threshold⟩ }

/-- An edit of a source in flight. -/
def editing (src : Source) (e : Edit) (queue : List Entry) (rights : BitVec 4 := 0b1000#4) (threshold : Nat := 0) :
    State :=
  applying (.edit ⟨src, e⟩) queue rights threshold

/-- The part after reset with the stage in a state, song time 500, the end at 1000 and a seek counted. -/
def onStage (stage : StageState) (hold : HoldTimer := .stopped) : State :=
  State.reset.withSc
    { StageController.afterReset with stage := stage, songTime := 500, endTime := some 1000, seekCount := 1, hold := hold }

/-- The part in reset. -/
def inReset : State := State.reset.withInReset true

/-- What a source's reply place holds. -/
def replyTo (src : Source) (r : Result) : Option Reply := ((after r).port src).replyPlace

/-- What a source's refusal place holds. -/
def refusalTo (src : Source) (r : Result) : Option Reply := ((after r).port src).refusalPlace

/-- An ADD with no title, no singers, key 0 and tempo 100. -/
def plainAdd (song : Nat) : AddParams := ⟨song, [], none, none, 0, 0, 100, 0⟩

/-- A glyph two pixels wide. -/
def thinGlyph (code : Nat) : GlyphParams := ⟨code, 20, 2, List.replicate 32 0xFFFFFFFF#32⟩

/-- A loaded song of three records: the line 1, its syllable and END (3.2). -/
def shortSong (ticket : Nat) : Song where
  ticket := ticket
  records := [.line 1 100 900 .p1 1, .syl 0 300 [65], .mark .finish 1000]
  index := ⟨⟨0, none⟩, ⟨0, none⟩, ⟨0, none⟩, some 1000, [⟨100, 900, 0⟩]⟩
  clamps := 0

/-- A load of ticket 7 that expects this many records. -/
def freshLoad (remaining : Option Nat) : Load :=
  ⟨7, [], remaining, .little, ⟨0, 0, 0, 0, none, none, 0, 0, 0, false⟩, 0, ⟨⟨0, none⟩, ⟨0, none⟩, ⟨0, none⟩, none, []⟩⟩

/-- Ticket 7 is CUED and this slot stands in place A. -/
def withSlot (c : Slot) : State := (room [entry 7 30044 .cued]).withSl ⟨c, .empty, none⟩

/-- The 16 bytes of an END mark at 15,400, little byte order (R170). -/
def endMark : List Byte := [0x04#8, 0x05#8, 0x28#8, 0x3C#8, 0x00#8] ++ List.replicate 11 0#8

/-- Finals of a lane that sang nothing. -/
def noFinals : Finals := ⟨none, 0, ⟨0, 0, 0, 0⟩, 0⟩

/-! ### WellFormed refuses ill-formed terms -/

theorem test_wf_song_needs_three_bytes : Instr.wellFormed (.add .panel1 (plainAdd 16777216)) = false := by decide
theorem test_wf_title_fits_the_frame :
    Instr.wellFormed (.add .panel1 { plainAdd 1 with title := List.replicate 121 65 }) = false := by decide +kernel
theorem test_wf_title_code_fits : Instr.wellFormed (.add .panel1 { plainAdd 1 with title := [65536] }) = false := by decide
theorem test_wf_roster_number_zero_is_absent :
    Instr.wellFormed (.add .panel1 { plainAdd 1 with singer := some 0 }) = false := by decide
theorem test_wf_partner_fits : Instr.wellFormed (.add .panel1 { plainAdd 1 with partner := some 256 }) = false := by decide
theorem test_wf_start_key_fits : Instr.wellFormed (.add .panel1 { plainAdd 1 with startKey := 128 }) = false := by decide
theorem test_wf_flags_fit :
    Instr.wellFormed (.add .panel1 { plainAdd 1 with duet := 256 }) = false
      ∧ Instr.wellFormed (.add .panel1 { plainAdd 1 with wantsPriority := 256 }) = false
      ∧ Instr.wellFormed (.add .panel1 { plainAdd 1 with tempo := 256 }) = false := by decide
theorem test_wf_ticket_fits :
    Instr.wellFormed (.withdraw .player 65536) = false ∧ Instr.wellFormed (.hold .player 65536) = false
      ∧ Instr.wellFormed (.release .player 65536) = false ∧ Instr.wellFormed (.raise .player 65536) = false
      ∧ Instr.wellFormed (.lower .player 65536) = false ∧ Instr.wellFormed (.query .player 65536) = false := by decide
theorem test_wf_name_fits :
    Instr.wellFormed (.singerAdd .panel1 (List.replicate 125 65)) = false
      ∧ Instr.wellFormed (.idleText .player (List.replicate 125 65)) = false := by decide +kernel
theorem test_wf_one_byte_numbers :
    Instr.wellFormed (.singerDrop .player 256) = false ∧ Instr.wellFormed (.list .player 256 1) = false
      ∧ Instr.wellFormed (.history .player 0 256) = false ∧ Instr.wellFormed (.roster .player (some 256)) = false
      ∧ Instr.wellFormed (.tempo .player 256) = false ∧ Instr.wellFormed (.rights .player 256 none) = false
      ∧ Instr.wellFormed (.profileGet .player 256) = false := by decide
theorem test_wf_load_open_fits :
    Instr.wellFormed (.loadOpen .player 7 65536 0) = false ∧ Instr.wellFormed (.loadOpen .player 7 0 256) = false := by decide
theorem test_wf_load_data_is_whole_records :
    Instr.wellFormed (.loadData .player []) = false ∧ Instr.wellFormed (.loadData .player (List.replicate 17 0#8)) = false
      ∧ Instr.wellFormed (.loadData .player (List.replicate 256 0#8)) = false := by decide +kernel
theorem test_wf_times_fit :
    Instr.wellFormed (.start .player 7 16777216) = false ∧ Instr.wellFormed (.sync .player 16777216) = false := by decide
theorem test_wf_signed_bytes_fit :
    Instr.wellFormed (.key .player (-129)) = false ∧ Instr.wellFormed (.keyStep .player 128) = false := by decide
theorem test_wf_glyph_has_32_rows :
    Instr.wellFormed (.glyphLoad .player { thinGlyph 65 with rows := [0#32] }) = false
      ∧ Instr.wellFormed (.glyphLoad .player { thinGlyph 65 with code := 65536 }) = false
      ∧ Instr.wellFormed (.glyphLoad .player { thinGlyph 65 with maskWidth := 256 }) = false := by decide
theorem test_wf_zones_fit :
    Instr.wellFormed (.zones .player 256 0 0) = false ∧ Instr.wellFormed (.zones .player 0 65536 0) = false
      ∧ Instr.wellFormed (.zones .player 0 0 256) = false := by decide
theorem test_wf_stray_bits :
    Instr.wellFormed (.playerWriteTransaction [0x3C#8] (some (List.replicate 8 true))) = false
      ∧ Instr.wellFormed (.playerReadTransaction 4 (some (List.replicate 8 true))) = false := by decide
theorem test_wf_profile_value_fits :
    Instr.wellFormed (.profileSet .player 0 32768) = false ∧ Instr.wellFormed (.profileSet .player 0 (-32769)) = false
      ∧ Instr.wellFormed (.profileSet .player 256 0) = false := by decide

/-! ### The queue (chapter 1, the round of requests, and chapter 2) -/

/-- An ADD's arrival check: a song number 0 is BAD-VALUE (R12). -/
theorem test_add_song_zero :
    replyTo .panel1 (exec (.add .panel1 (plainAdd 0)) State.reset) = some ⟨0x10#8, ⟨.badValue, {}, []⟩⟩ := by decide
/-- An idle QM takes the edit at once (R29). -/
theorem test_withdraw_begins :
    (after (exec (.withdraw .panel1 5) State.reset)).qm.inFlight = some ⟨.edit ⟨.panel1, .withdraw 5⟩, 0b1000#4, 0⟩ := by
  decide
/-- Sequence 1, step 1: panel 2's HOLD 22 waits in the backlog. -/
theorem test_hold_waits :
    (after (exec (.hold .panel2 22) (editing .panel1 (.add (plainAdd 5)) []))).qm.backlog = [⟨.panel2, .hold 22⟩] := by
  decide
theorem test_release_waits :
    (after (exec (.release .panel3 9) (editing .panel1 .clearQueue []))).qm.backlog = [⟨.panel3, .release 9⟩] := by decide
theorem test_raise_waits :
    (after (exec (.raise .player 9) (editing .panel1 .clearQueue []))).qm.backlog = [⟨.player, .raise 9⟩] := by decide
theorem test_lower_waits :
    (after (exec (.lower .player 9) (editing .panel1 .clearQueue []))).qm.backlog = [⟨.player, .lower 9⟩] := by decide
/-- A name of 13 codes is BAD-VALUE (R22). -/
theorem test_singer_add_long_name :
    replyTo .panel1 (exec (.singerAdd .panel1 (List.replicate 13 65)) State.reset)
      = some ⟨0x16#8, ⟨.badValue, {}, []⟩⟩ := by decide
theorem test_singer_drop_begins :
    (after (exec (.singerDrop .panel1 1) State.reset)).qm.inFlight
      = some ⟨.edit ⟨.panel1, .singerDrop 1⟩, 0b1000#4, 0⟩ := by decide
/-- CLEAR-QUEUE is the Player's alone (R21). -/
theorem test_clear_queue_from_a_panel :
    refusalTo .panel1 (exec (.clearQueue .panel1) State.reset) = some ⟨0x18#8, ⟨.notHere, {}, []⟩⟩ := by decide
theorem test_uncue_begins :
    (after (exec (.uncue .player) State.reset)).qm.inFlight = some ⟨.edit ⟨.player, .uncue⟩, 0b1111#4, 0⟩ := by decide
/-- Sequence 1, step 2: the TAKE-NEXT waits with HOLD 22 ahead of it. -/
theorem test_take_next_waits :
    (after (exec (.takeNext .player) (after (exec (.hold .panel2 22) (editing .panel1 (.add (plainAdd 5)) []))))).qm.takeNext
      = some 1 := by decide
/-- Step 2 of the round: DEMOTED and CLAMPED, ticket 2 at position 1 with key +6, the counter 3. -/
theorem test_add_applied_demoted_and_clamped :
    let s := (editing .panel2 (.add { plainAdd 51877 with startKey := 9, wantsPriority := 1 }) [entry 1 40213 .waiting])
    let r := exec .addApplied (s.withQm { s.qm with ticketCounter := 2 })
    replyTo .panel2 r = some ⟨0x10#8, ⟨.ok, { demoted := true, clamped := true }, [0x00#8, 0x02#8, 0x01#8]⟩⟩
      ∧ (after r).qm.ticketCounter = 3
      ∧ (after r).qm.queue.map (fun e => (e.ticket, e.startKey)) = [(1, 0), (2, 6)] := by decide
/-- Step 4 of the round: the Player's vote reaches the threshold 3 and promotes ticket 1 (its pairs (1,1) (2,1)). -/
theorem test_add_applied_promotes :
    let r := exec .addApplied (editing .player (.add (plainAdd 40213))
      [entry 2 51877 .waiting, { entry 1 40213 .waiting with requesters := [⟨.panel1, 1⟩, ⟨.panel2, 1⟩] }] 0b1111#4 3)
    replyTo .player r = some ⟨0x10#8, ⟨.ok, { gathered := true, promoted := true }, [0x00#8, 0x01#8, 0x00#8]⟩⟩
      ∧ (after r).qm.queue.map (fun e => (e.ticket, e.cls)) = [(1, .priority), (2, .normal)] := by decide
/-- Step 6: panel 1's two votes go with it, and two remain. -/
theorem test_withdraw_applied_keeps_the_rest :
    replyTo .panel1 (exec .withdrawApplied (editing .panel1 (.withdraw 1)
        [{ entry 1 40213 .waiting .priority with requesters := [⟨.panel1, 2⟩, ⟨.panel2, 1⟩, ⟨.player, 1⟩] }]))
      = some ⟨0x11#8, ⟨.ok, {}, [0x00#8, 0x01#8, 0x02#8]⟩⟩ := by decide
/-- Step 7: panel 3 has no pair and no CANCEL-ANY right. -/
theorem test_withdraw_applied_not_yours :
    replyTo .panel3 (exec .withdrawApplied (editing .panel3 (.withdraw 2) [entry 2 51877 .waiting]))
      = some ⟨0x11#8, ⟨.notYours, {}, []⟩⟩ := by decide
/-- Step 8: HOLD 2 at position 1. -/
theorem test_hold_applied :
    let r := exec .holdApplied (editing .panel1 (.hold 2) [entry 1 40213 .waiting, entry 2 51877 .waiting])
    replyTo .panel1 r = some ⟨0x12#8, ⟨.ok, {}, [0x00#8, 0x02#8, 0x01#8]⟩⟩
      ∧ (after r).qm.queue.map (fun e => e.state) = [.waiting, .held]
      ∧ (after r).ports.panel3.events = 0x801#12 := by decide
/-- Only the holder and the Player release (R19): panel 2 with a pair is refused. -/
theorem test_release_applied_not_holder :
    replyTo .panel2 (exec .releaseApplied (editing .panel2 (.release 2)
        [{ entry 2 51877 .held with requesters := [⟨.panel2, 1⟩] }]))
      = some ⟨0x13#8, ⟨.notYours, {}, []⟩⟩ := by decide
/-- RAISE puts an entry at the head of the priority section (R20). -/
theorem test_raise_applied :
    (after (exec .raiseApplied (editing .player (.raise 3)
        [entry 1 10 .playing, entry 2 11 .waiting .priority, entry 3 12 .waiting] 0b1111#4))).qm.queue.map
      (fun e => (e.ticket, e.cls)) = [(1, .normal), (3, .priority), (2, .priority)] := by decide
/-- LOWER puts an entry at the tail of the normal section (R20). -/
theorem test_lower_applied :
    (after (exec .lowerApplied (editing .player (.lower 2)
        [entry 2 11 .waiting .priority, entry 3 12 .waiting] 0b1111#4))).qm.queue.map
      (fun e => (e.ticket, e.cls)) = [(3, .normal), (2, .normal)] := by decide
/-- CLEAR-QUEUE removes the WAITING and the HELD and keeps the stage (R21). -/
theorem test_clear_queue_applied :
    let r := exec .clearQueueApplied (editing .player .clearQueue
      [entry 1 10 .playing, entry 2 11 .cued, entry 3 12 .held, entry 4 13 .waiting])
    (after r).qm.queue.map (fun e => e.ticket) = [1, 2] ∧ replyTo .player r = some ⟨0x18#8, ⟨.ok, {}, [0x02#8]⟩⟩ := by
  decide
/-- Step 0 of the round: roster place 1. -/
theorem test_singer_add_applied :
    let r := exec .singerAddApplied (editing .panel1 (.singerAdd [65, 66, 67, 68, 69]) [])
    replyTo .panel1 r = some ⟨0x16#8, ⟨.ok, {}, [0x01#8]⟩⟩ ∧ (after r).qm.singerAt 1 = some ⟨[65, 66, 67, 68, 69], .panel1⟩ := by
  decide
/-- A free place is BAD-VALUE (R23). -/
theorem test_singer_drop_applied :
    replyTo .panel1 (exec .singerDropApplied (editing .panel1 (.singerDrop 4) [])) = some ⟨0x17#8, ⟨.badValue, {}, []⟩⟩ := by
  decide
/-- The example of R9: ticket 7 returns and absorbs ticket 9. -/
theorem test_uncue_applied_absorbs :
    (after (exec .uncueApplied (editing .player .uncue
        [entry 5 1 .playing, { entry 7 30044 .cued with requesters := [⟨.player, 1⟩] }, entry 8 2 .waiting .priority,
          entry 6 3 .waiting,
          { entry 9 30044 .held with requesters := [⟨.panel2, 1⟩, ⟨.player, 2⟩], holder := some .panel2 }]))).qm.queue
      = [entry 5 1 .playing, entry 8 2 .waiting .priority,
          { entry 7 30044 .held with requesters := [⟨.player, 3⟩, ⟨.panel2, 1⟩], holder := some .panel2 },
          entry 6 3 .waiting] := by decide
/-- Sequence 1, step 5: 21 is CUED behind the PLAYING entry. -/
theorem test_take_next_applied :
    let r := exec .takeNextApplied (applying .takeNext [entry 20 1 .playing, entry 21 2 .waiting, entry 22 3 .waiting])
    (after r).qm.queue.map (fun e => (e.ticket, e.state)) = [(20, .playing), (21, .cued), (22, .waiting)] := by decide
/-- Sequence 3, order A: no entry carries 40, and the SC is sent CUE-LOST. -/
theorem test_start_notice_lost :
    (after (exec .startNoticeApplied (applying (.notice (.start 40)) []))).qm.toStage = [.cueLost] := by decide
/-- Sequence 3, order B: entry and slot become PLAYING together. -/
theorem test_start_notice_applied :
    let s := applying (.notice (.start 40)) [entry 40 1 .cued]
    let t := after (exec .startNoticeApplied (s.withSl ⟨.empty, .loaded (shortSong 40), none⟩))
    t.qm.queue.map (fun e => e.state) = [.playing] ∧ t.sl.slotB = .playing (shortSong 40)
      ∧ t.qm.toStage = [.start 0 100 false] := by decide
/-- Sequence 2, step 5: 30 goes to the history COMPLETED and its slot is freed. -/
theorem test_retire_notice_applied :
    let s := applying (.notice (.retire .completed 777 ⟨noFinals, noFinals⟩)) [entry 30 1 .playing, entry 32 2 .waiting]
    let t := after (exec .retireNoticeApplied (s.withSl ⟨.playing (shortSong 30), .empty, none⟩))
    t.qm.queue.map (fun e => e.ticket) = [32] ∧ t.sl.slotA = .empty ∧ t.qm.toStage = [.retire]
      ∧ t.qm.history.map (fun h => (h.ticket, h.endKind, h.timeReached)) = [(30, .completed, 777)] := by decide
/-- A RESET files the PLAYING entry ABORTED and returns the CUED one (R39). -/
theorem test_reset_notice_applied :
    let t := after (exec .resetNoticeApplied (applying (.notice (.reset 5)) [entry 30 1 .playing, entry 32 2 .cued]))
    t.qm.queue.map (fun e => (e.ticket, e.state)) = [(32, .waiting)] ∧ t.qm.toStage = [.reset]
      ∧ t.qm.history.map (fun h => h.endKind) = [.aborted] := by decide
/-- LIST's payload: the queue length, one summary of 12 bytes (R24, R171). -/
theorem test_list :
    replyTo .panel1 (exec (.list .panel1 1 1) (room [entry 1 10 .playing, entry 2 11 .held .priority]))
      = some ⟨0x20#8, ⟨.ok, {},
          [2#8, 1#8, 1#8, 0#8, 2#8, 1#8, 0#8, 0#8, 0#8, 11#8, 1#8, 0#8, 0#8, 0#8]⟩⟩ := by decide
theorem test_query_no_ticket :
    replyTo .panel1 (exec (.query .panel1 9) (room [entry 1 10 .playing])) = some ⟨0x21#8, ⟨.noTicket, {}, []⟩⟩ := by decide
theorem test_history_bad_value :
    replyTo .panel1 (exec (.history .panel1 16 1) State.reset) = some ⟨0x22#8, ⟨.badValue, {}, []⟩⟩ := by decide
theorem test_roster_bad_value :
    replyTo .panel1 (exec (.roster .panel1 (some 17)) State.reset) = some ⟨0x23#8, ⟨.badValue, {}, []⟩⟩ := by decide
/-- The wrap of R4: the counter at 998 with 998, 999, 1 and 2 live assigns 3. -/
theorem test_ticket_wraps :
    QueueManager.newTicket { QueueManager.afterReset with
      ticketCounter := 998, queue := [entry 998 1 .waiting, entry 999 2 .waiting, entry 1 3 .cued, entry 2 4 .held] } = 3 := by
  decide

/-! ### The cue slots (chapter 3) -/

/-- The counted load: with A PLAYING the target is B, and the reply says so. -/
theorem test_load_open :
    let s := (room [entry 6 1 .playing, entry 7 30044 .cued]).withSl ⟨.playing (shortSong 6), .empty, none⟩
    let r := exec (.loadOpen .player 7 9 0) s
    (after r).sl.slotB = .loading (freshLoad (some 9))
      ∧ replyTo .player r = some ⟨0x30#8, ⟨.ok, {}, [0x01#8, 0x00#8, 0x07#8]⟩⟩ := by decide
theorem test_load_data_begins :
    (after (exec (.loadData .player endMark) (withSlot (.loading (freshLoad none))))).sl.inFlight = some ⟨.a, endMark⟩ := by
  decide
/-- A lone END mark closes a counted load of one record LOADED, and LOAD-DONE is raised (R57, R64). -/
theorem test_load_data_end :
    let s := withSlot (.loading (freshLoad (some 1)))
    let r := exec .loadDataEnd (s.withSl { s.sl with inFlight := some ⟨.a, endMark⟩ })
    (after r).sl.slotA
        = .loaded ⟨7, [.mark .finish 15400], ⟨⟨0, none⟩, ⟨0, none⟩, ⟨0, none⟩, some 15400, []⟩, 0⟩
      ∧ (after r).ports.player.events = 0x804#12 := by decide
/-- A load cut short of its count is FAILED, SHORT (R58). -/
theorem test_load_close_short :
    (after (exec (.loadClose .player) (withSlot (.loading (freshLoad (some 3)))))).sl.slotA = .failed ⟨7, [], 0, .short⟩ := by
  decide
theorem test_load_abort :
    (after (exec (.loadAbort .player) (withSlot (.failed ⟨7, [], 0, .short⟩)))).sl.slotA = .empty := by decide
/-- The counted load's first NOTE: 98 becomes 96 and one clamp is counted. -/
theorem test_note_is_clamped : RawRecord.clamp (.note 12000 800 98 .p1) = (.note 12000 800 96 .p1, 1) := by decide
/-- The failing load: a P2 note at 62,100 before the latest P2 end 62,400 is NOTE-ORDER. -/
theorem test_note_order :
    LoadTracking.check ⟨18, 60000, 70000, 1, none, some 61300, 61900, 62400, 70000, false⟩ (.note 62100 500 60 .p2)
      = some .noteOrder := by decide

/-! ### The stage (chapter 4) -/

/-- Step 3 of the worked song: STARTING, the timer suspended with 5,000 ms. -/
theorem test_start :
    let s := withSlot (.loaded (shortSong 7))
    let t := after (exec (.start .player 7 500) (s.withSc { s.sc with stage := .result, hold := .running 5000 }))
    t.sc.stage = .starting ∧ t.sc.hold = .suspended 5000 ∧ t.sc.endTime = some 1000
      ∧ t.qm.inFlight = some ⟨.notice (.start 7), 0b1111#4, 0⟩ := by decide
/-- Step 4: the confirmation carries key +1 and begins at the offset, the timer stopped, the guard set. -/
theorem test_start_confirmation :
    let s := withSlot (.playing (shortSong 7))
    let t := after (exec .startConfirmation ((s.withSc
        { s.sc with stage := .starting, hold := .suspended 5000, pendingStart := some ⟨7, 500, .result⟩ }).withQm
        { s.qm with toStage := [.start 1 100 false] }))
    t.sc = ⟨.playing, 500, 0, 1, 100, 0, none, .stopped, none⟩ ∧ t.su.guarded = true ∧ t.lr.mode = .rows := by decide
/-- R69: back to RESULT with the timer resumed at 5,000 ms. -/
theorem test_cue_lost_answer :
    let s := State.reset
    let t := after (exec .cueLostAnswer ((s.withSc
        { s.sc with stage := .starting, hold := .suspended 5000, pendingStart := some ⟨7, 500, .result⟩ }).withQm
        { s.qm with toStage := [.cueLost] }))
    t.sc.stage = .result ∧ t.sc.hold = .running 5000 ∧ t.sc.pendingStart = none := by decide
theorem test_pause : (after (exec (.pause .player) (onStage .playing))).sc.stage = .paused := by decide
theorem test_resume_in_playing :
    replyTo .player (exec (.resume .player) (onStage .playing)) = some ⟨0x42#8, ⟨.wrongState, {}, []⟩⟩ := by decide
/-- STOP waits for the RETIRE confirmation: ENDING and no reply yet (R78). -/
theorem test_stop :
    let r := exec (.stop .player) (onStage .paused)
    (after r).sc.stage = .ending ∧ replyTo .player r = none
      ∧ (after r).qm.inFlight = some ⟨.notice (.retire .stopped 500 ⟨noFinals, noFinals⟩), 0b1111#4, 0⟩ := by decide
/-- Step 7: 40 ms ahead is a correction; nothing is counted. -/
theorem test_sync_corrects :
    let t := after (exec (.sync .player 540) (onStage .playing))
    t.sc.songTime = 540 ∧ t.sc.seekCount = 1 := by decide
/-- Step 9: 400 ms ahead is a seek. -/
theorem test_sync_seeks :
    replyTo .player (exec (.sync .player 900) (onStage .playing))
      = some ⟨0x44#8, ⟨.ok, {}, [0x00#8, 0x03#8, 0x84#8, 0x01#8, 0x00#8, 0x02#8, 0x00#8]⟩⟩ := by decide
/-- A key of +9 is clamped to +6, and STAGE-CHANGED goes to every port (R75). -/
theorem test_key :
    let r := exec (.key .panel2 9) (onStage .playing)
    (after r).sc.key = 6 ∧ replyTo .panel2 r = some ⟨0x45#8, ⟨.ok, { clamped := true }, [0x06#8]⟩⟩
      ∧ (after r).ports.panel1.events = 0x820#12 := by decide
theorem test_key_step_bad_value :
    replyTo .panel2 (exec (.keyStep .panel2 2) (onStage .playing)) = some ⟨0x46#8, ⟨.badValue, {}, []⟩⟩ := by decide
theorem test_tempo :
    replyTo .player (exec (.tempo .player 120) (onStage .playing)) = some ⟨0x47#8, ⟨.ok, { clamped := true }, [115#8]⟩⟩ := by
  decide
theorem test_skip_result :
    let t := after (exec (.skipResult .player) (onStage .result (.running 3000)))
    t.sc.stage = .ready ∧ t.sc.hold = .stopped := by decide
theorem test_stage_reset :
    (after (exec (.stageReset .player) (onStage .playing))).qm.inFlight
      = some ⟨.notice (.reset 500), 0b1111#4, 0⟩ := by decide
theorem test_reset_confirmation :
    let s := onStage .resetting
    let t := after (exec .resetConfirmation (s.withQm { s.qm with toStage := [.reset] }))
    t.sc.stage = .ready ∧ t.sc.endTime = none ∧ t.ports.player.condition = .answered := by decide
/-- STATUS after reset: READY, song time 0, key 0, tempo 100, no tickets and no scores (R84). -/
theorem test_status : (State.reset.statusPayload).take 6 = [0#8, 0#8, 0#8, 0#8, 0#8, 100#8] := by decide
/-- The clock at tempo 95: after the first millisecond 95 stands in the remainder, and the second moves song time. -/
theorem test_timebase_millisecond :
    let s := onStage .playing
    let once := (after (exec .timebaseMillisecond (s.withSc { s.sc with tempo := 95 }))).sc
    let twice := (after (exec .timebaseMillisecond (s.withSc { s.sc with tempo := 95, remainder := 95 }))).sc
    (once.songTime, once.remainder) = (500, 95) ∧ (twice.songTime, twice.remainder) = (501, 90) := by decide
/-- The last millisecond of the song finalises it (R71). -/
theorem test_song_end :
    let s := onStage .playing
    let t := after (exec .songEnd (s.withSc { s.sc with songTime := 999 }))
    t.sc.stage = .ending ∧ t.sc.songTime = 1000 := by decide
/-- Step 2: the confirmation brings RESULT with 8,000 ms of hold. -/
theorem test_retire_confirmation :
    let s := onStage .ending
    let t := after (exec .retireConfirmation (s.withQm { s.qm with toStage := [.retire] }))
    t.sc.stage = .result ∧ t.sc.hold = .running 8000 ∧ t.ports.panel1.events = 0x810#12 := by decide
/-- The interlude hold stays as the last frame start found it when the card comes, and the next frame start finds it off
(R132). -/
theorem test_hold_waits_for_a_frame_start :
    let s := (onStage .ending).withLr { State.reset.lr with mode := .rows, holdOn := true }
    let t := after (exec .retireConfirmation (s.withQm { s.qm with toStage := [.retire] }))
    t.lr.mode = .card ∧ t.lr.holdOn = true ∧ (after (exec .outputFrameStart t)).lr.holdOn = false := by decide
/-- A stage reset empties what LYRIC-STATUS reports, the interlude hold with it (R132). -/
theorem test_stage_reset_clears_the_hold :
    (after (exec (.stageReset .player)
      ((onStage .playing).withLr { State.reset.lr with mode := .rows, holdOn := true }))).lr.holdOn = false := by decide
theorem test_hold_timer_expiry :
    (after (exec .holdTimerExpiry (onStage .result (.running 1)))).sc.stage = .ready := by decide

/-! ### Pitch and scores (chapter 5) -/

/-- An I2S frame on the wire, low for the left channel, each sample from the second edge on, the most significant bit first;
what comes before the word clock first goes low is not taken (R86). -/
theorem test_i2s_frame_is_received :
    let edges := edgesAt true [true, true] ++ edgesAt false (true :: sampleBits 0x8001#16) ++ edgesAt true (true :: sampleBits 2#16)
    (after (exec (.analysisFrameCompletion edges) State.reset)).pt.inProgress = [(0x8001#16, 2#16)] := by decide +kernel
/-- With 16 bit clocks for each channel the last bit comes with the change of the word clock (R86). -/
theorem test_i2s_last_bit_comes_with_the_change :
    let s := State.reset.withPt { State.reset.pt with receiver := ⟨some false, true, [], none⟩ }
    (after (exec (.analysisFrameCompletion (edgesAt false ((sampleBits 0x7FFF#16).take 15) ++ [⟨true, true⟩])) s)).pt.receiver
      = ⟨some true, true, [], some 0x7FFF#16⟩ := by decide +kernel
/-- The first I2S frame after reset latches the stage key as it stands then (R87). -/
theorem test_first_frame_latches_the_key :
    let s := State.reset.withSc { StageController.afterReset with key := 3 }
    (after (exec (.analysisFrameCompletion [⟨true, false⟩]) s)).pt.latchedKey = 0
      ∧ (after (exec (.analysisFrameCompletion [⟨true, false⟩, ⟨false, false⟩]) s)).pt.latchedKey = 3 := by decide

/-- The five frames of the example in section 5.5: tolerance 50, fold on, key +2, note 62. -/
theorem test_frame_quality :
    [some 6410, some 6470, some 5215, none, some 6340].map
        (fun p => frameQuality 50 true ⟨-20, false, p, 2⟩ 62) = [8, 4, 8, 0, 6] := by decide
/-- The note of that example closes with accuracy 65, FAIR. -/
theorem test_note_closes_fair :
    (ScoreLane.close { ScoreLane.afterReset with openNote := some ⟨3, 20000, 100, 62, .p1, 5, 26⟩ }).counts
      = ⟨0, 0, 1, 0⟩ := by decide

/-! ### The zones (chapters 6 to 8) -/

theorem test_glyph_load :
    let r := exec (.glyphLoad .player (thinGlyph 65)) State.reset
    replyTo .player r = some ⟨0x50#8, ⟨.ok, {}, [0x00#8, 0x41#8, 0x00#8]⟩⟩
      ∧ (glyphAt (after r).lr.glyphs 65).map (fun g => (g.advance, g.maskWidth)) = some (20, 2) := by decide
theorem test_lyric_status_of_empty :
    (replyTo .panel1 (exec (.lyricStatus .panel1) State.reset)).map (fun r => (r.answer.code, r.answer.payload.length))
      = some (.ok, 22) := by decide
theorem test_idle_text :
    let t := after (exec (.idleText .player [65, 66]) State.reset)
    t.tu.idleText = [65, 66] ∧ t.tu.mark = true := by decide
/-- Ht 10 is neither 0 nor 24..64 (R152). -/
theorem test_zones_bad_value :
    replyTo .player (exec (.zones .player 10 100 0) State.reset) = some ⟨0x53#8, ⟨.badValue, {}, []⟩⟩ := by decide
theorem test_video_status_length :
    (replyTo .panel1 (exec (.videoStatus .panel1) State.reset)).map (fun r => r.answer.payload.length) = some 19 := by decide
/-- The cable example: an input frame of 500 ms does not regain the lock; one of 17 ms at 640 by 360 does. -/
theorem test_input_frame_start :
    let s := State.reset.withVc { State.reset.vc with measurement := some ⟨500, 0, 0, true⟩ }
    let u := State.reset.withVc { State.reset.vc with measurement := some ⟨17, 359, 640, true⟩ }
    (after (exec (.inputFrameStart [640]) s)).vc.lock = .lost
      ∧ (after (exec (.inputFrameStart [640]) u)).vc.lock = .locked
      ∧ (after (exec (.inputFrameStart [640]) u)).vc.lossTimer = some 80 := by decide
theorem test_loss_timer_expiry :
    let s := State.reset.withVc { State.reset.vc with lock := .locked, lossTimer := some 1, internalTiming := false }
    let t := after (exec .lossTimerExpiry s)
    t.vc.lock = .lost ∧ t.ports.panel1.events = 0x900#12 := by decide
/-- The picture shrinks: 64, 240 and 96 lines in 360 leave 200 for the lyrics. -/
theorem test_output_frame_start_fits_zones :
    let p := Profile.defaults
    let s := (State.reset.withVc { State.reset.vc with width := 640, height := 360 }).withPs
      { State.reset.ps with profile := { p with staged := { p.staged with ht := 64, hl := 240, hm := 96 } } }
    let t := after (exec .outputFrameStart s)
    (t.vc.live.ht, t.vc.live.hl, t.vc.live.hm) = (64, 200, 96) ∧ t.ports.player.events = 0xC00#12 := by decide
/-- Alpha 16 is the overlay, 0 the video, and 8 the middle (R155). -/
theorem test_blend : blendComponent 16 200 7 = 200 ∧ blendComponent 0 200 7 = 7 ∧ blendComponent 8 255 0 = 128 := by decide

/-! ### Ports, events and profile (chapters 9 to 11) -/

/-- The worked example: a TAKE-NEXT frame after the select byte is routed to the QM. -/
theorem test_player_write_transaction :
    (after (exec (.playerWriteTransaction [0x3C#8, 0x1A#8, 0x00#8] (some [])) State.reset)).ports.player.condition
      = .outstanding 0x1A#8 := by decide
/-- A read to the last byte delivers and frees the port; a read cut short does not. -/
theorem test_player_read_transaction :
    let s := after (exec (.mask .player 0xFFFF#16) State.reset)
    (after (exec (.playerReadTransaction 6 (some [])) s)).ports.miso = [0x00#8, 0x62#8, 0x00#8, 0x02#8, 0x0F#8, 0xFF#8]
      ∧ (after (exec (.playerReadTransaction 6 none) s)).ports.player.condition = .free
      ∧ (after (exec (.playerReadTransaction 5 (some [])) s)).ports.player.condition = .answered := by decide
/-- A reset discards a Player transaction in progress (R157): its frame is not taken. -/
theorem test_reset_discards_a_transaction :
    let s := after (exec (.playerWriteTransaction [0x3C#8, 0x1A#8] none) State.reset)
    s.ports.transaction = some (.writing [0x1A#8]) ∧ (after (exec .hardwareReset s)).ports.transaction = none := by decide
/-- CRC-8 of x^8 + x^2 + x + 1 over the ASCII digits 1 to 9 is the published check value 0xF4 (R161). -/
theorem test_crc : crc8 [0x31#8, 0x32#8, 0x33#8, 0x34#8, 0x35#8, 0x36#8, 0x37#8, 0x38#8, 0x39#8] = 0xF4#8 := by decide +kernel
/-- A frame with a wrong check byte is refused BAD-CHECK (R163). -/
theorem test_panel_frame_bad_check :
    refusalTo .panel1 (exec (.panelFrame .one [0xA5#8, 0x61#8, 0x00#8, 0x00#8]) State.reset)
      = some ⟨0x61#8, ⟨.badCheck, {}, []⟩⟩ := by decide +kernel
theorem test_panel_line_break :
    (after (exec (.panelLineBreak .one) (after (exec (.panelFrame .one [0xA5#8, 0x61#8]) State.reset)))).ports.panel1.receiver
      = .hunting := by decide
theorem test_panel_reply_delivery :
    let s := after (exec (.events .panel1) State.reset)
    let t := after (exec (.panelReplyDelivery ⟨.one, 8⟩) s)
    t.ports.panel1.condition = .free ∧ t.ports.panel1.replyPlace = none ∧ t.ports.panel1.transmitter = none
      ∧ ((after (exec (.panelReplyDelivery ⟨.one, 7⟩) s)).ports.panel1.transmitter.map (fun x => x.left.length)) = some 1 := by
  decide +kernel
theorem test_rights :
    (after (exec (.rights .player 2 (some 0x0F#8)) State.reset)).ports.panel2.rights = 0b1111#4 := by decide
/-- A mask with bit 4 set is BAD-VALUE (R166). -/
theorem test_rights_bad_mask :
    replyTo .player (exec (.rights .player 2 (some 0x10#8)) State.reset) = some ⟨0x60#8, ⟨.badValue, {}, []⟩⟩ := by decide
/-- After reset the set holds PART-RESET alone; EVENTS reads and empties it (R174, R177). -/
theorem test_events :
    let r := exec (.events .panel1) State.reset
    replyTo .panel1 r = some ⟨0x61#8, ⟨.ok, {}, [0x08#8, 0x00#8]⟩⟩ ∧ (after r).ports.panel1.events = 0#12 := by decide
theorem test_mask : (after (exec (.mask .panel1 0x0000#16) State.reset)).attention .panel1 = false := by decide
/-- The tolerance 300 is clamped to 200 (R178, R179). -/
theorem test_profile_set :
    let r := exec (.profileSet .player 0x00 300) State.reset
    (after r).ps.profile.tolerance = 200
      ∧ replyTo .player r = some ⟨0x70#8, ⟨.ok, { clamped := true }, [0x00#8, 0x00#8, 0xC8#8]⟩⟩ := by decide
/-- The voice threshold's default, -42, in two's complement (R178, R169). -/
theorem test_profile_get :
    replyTo .panel1 (exec (.profileGet .panel1 0x02) State.reset) = some ⟨0x71#8, ⟨.ok, {}, [0x02#8, 0xFF#8, 0xD6#8]⟩⟩ := by
  decide
theorem test_profile_save :
    let t := after (exec (.profileSave .player) State.reset)
    t.ps.saving.isSome = true ∧ t.ps.nonvolatile.isNone = true := by decide
theorem test_profile_save_end :
    let t := after (exec (.profileSaveEnd true) (after (exec (.profileSave .player) State.reset)))
    t.ps.nonvolatile.isSome = true ∧ t.ps.defaulted = false ∧ t.ports.player.condition = .answered := by decide
theorem test_hardware_reset :
    let t := after (exec .hardwareReset (onStage .playing))
    t.inReset = true ∧ t.attention .player = false := by decide
theorem test_end_of_reset :
    let t := after (exec .endOfReset inReset)
    t.inReset = false ∧ t.attention .panel1 = true ∧ t.qm.ticketCounter = 1 ∧ t.sc.tempo = 100 := by decide

/-! ### States that meet the hypotheses of the statements -/

theorem test_meets_step_takes_the_front : State.reset.pending = [] := rfl

theorem test_meets_nothing_happens_in_reset :
    inReset.inReset = true ∧ Instr.takeNext .player ≠ .hardwareReset ∧ Instr.takeNext .player ≠ .endOfReset
      ∧ (∀ m b, Instr.takeNext .player ≠ .playerWriteTransaction m b)
      ∧ ∀ n b, Instr.takeNext .player ≠ .playerReadTransaction n b :=
  ⟨rfl, nofun, nofun, nofun, nofun⟩

theorem test_meets_reset_is_sound : Profile.defaults.inRange := by
  intro f
  cases f with
  | setColour set which c => cases set <;> cases which <;> cases c <;> decide
  | gradeColour g c => cases g <;> cases c <;> decide
  | background c => cases c <;> decide
  | glyphAlpha z => cases z <;> decide
  | boxAlpha z => cases z <;> decide
  | _ => decide

theorem test_meets_hardware_reset_runs : inReset.inReset = true := rfl

/-- Port records in use: panel 1's reply is being sent, and the Player's waits. -/
def busyPorts : State := after (exec (.events .panel1) (after (exec (.status .player) State.reset)))

theorem busyPorts_consistent : busyPorts.portsConsistent := by
  have port : ∀ p : Port, (p.replyPlace.isSome = true ↔ p.condition = .answered) →
      (p.first = none ↔ p.replyPlace = none ∧ p.refusalPlace = none) →
      ((p.first.all fun pl => (p.place pl).isSome) = true) →
      ((p.transmitter.all fun t => p.first == some t.place && !t.left.isEmpty) = true) → p.consistent := by
    intro p a b c d
    refine ⟨a, b, ?_, ?_⟩
    · intro pl h
      simpa [h] using c
    · intro t h
      simpa [h] using d
  refine ⟨fun src => ?_, fun panel => ?_, nofun, ?_⟩
  · cases src <;> exact port _ (by decide) (by decide) (by decide) (by decide +kernel)
  · cases panel <;> (unfold Port.sendsAtOnce; decide)
  · decide

theorem test_meets_ports_stay_consistent :
    busyPorts.portsConsistent ∧ ∃ t, step (busyPorts.withPending [.panelReplyDelivery ⟨.one, 3⟩]) = .next t :=
  ⟨busyPorts_consistent, _, rfl⟩

/-- A queue in use: PLAYING, CUED, WAITING priority, HELD normal. -/
def fullRoom : State :=
  room [entry 1 10 .playing, entry 2 11 .cued, entry 3 12 .waiting .priority, entry 4 13 .held]

theorem test_meets_queue_invariants :
    fullRoom.qm.wellKept ∧ fullRoom.qm.inOrder ∧ fullRoom.songSettingsInRange
      ∧ ∃ t, step (fullRoom.withPending [.hold .panel1 3]) = .next t := by
  refine ⟨?_, ?_, ?_, _, rfl⟩
  · unfold QueueManager.wellKept; decide
  · unfold QueueManager.inOrder; decide
  · refine ⟨?_, nofun, ?_, ?_⟩
    · unfold Entry.sound pitchAndPace; decide
    · unfold pitchAndPace; decide
    · decide

/-- A song on stage, its slot PLAYING, with the next entry CUED and its slot LOADED. -/
def playingRoom : State :=
  ((onStage .playing).withQm { QueueManager.afterReset with queue := [entry 1 10 .playing, entry 2 11 .cued] }).withSl
    ⟨.playing (shortSong 1), .loaded (shortSong 2), none⟩

theorem playingRoom_linked : playingRoom.linked := by
  refine fun _ => ⟨⟨rfl, rfl, rfl⟩, Or.inl rfl, by decide, ?_, ?_, ?_, ?_⟩
  · intro n g h
    cases n with
    | a => cases h; exact ⟨entry 1 10 .playing, List.mem_cons_self, rfl, rfl⟩
    | b => cases h
  · intro e he hp
    have he' : e ∈ [entry 1 10 .playing, entry 2 11 .cued] := he
    simp only [List.mem_cons, List.not_mem_nil, or_false] at he'
    rcases he' with rfl | rfl
    · exact ⟨.a, shortSong 1, rfl, rfl⟩
    · cases hp
  · intro n t h hp
    cases n with
    | a => cases hp
    | b => cases h; exact ⟨entry 2 11 .cued, List.mem_cons_of_mem _ List.mem_cons_self, rfl, rfl⟩
  · intro t h
    cases h
    decide

theorem test_meets_queue_and_stage_linked :
    playingRoom.portsConsistent ∧ playingRoom.qm.wellKept ∧ playingRoom.qm.inOrder ∧ playingRoom.qm.waitsInOrder
      ∧ playingRoom.linked ∧ ∃ t, step (playingRoom.withPending [.stop .player]) = .next t := by
  refine ⟨⟨fun src => ?_, fun panel => ?_, nofun, rfl⟩, ?_, ?_, ⟨fun _ => ⟨rfl, rfl, rfl⟩, nofun⟩, playingRoom_linked, _, rfl⟩
  · cases src <;> exact ⟨by decide, by decide, nofun, nofun⟩
  · cases panel <;> exact fun _ => rfl
  · unfold QueueManager.wellKept; decide
  · unfold QueueManager.inOrder; decide

theorem test_meets_slots_stay_sound :
    (withSlot (.loading (freshLoad (some 6144)))).sl.sound ∧ (withSlot (.playing (shortSong 7))).sl.sound
      ∧ ∃ t, step ((withSlot (.playing (shortSong 7))).withPending [.loadClose .player]) = .next t := by
  refine ⟨⟨⟨by decide, ?_, by decide, by decide⟩, trivial⟩, ⟨⟨by decide, by decide, rfl⟩, trivial⟩, _, rfl⟩
  intro n h
  obtain rfl := Option.some.inj h
  decide

theorem test_meets_counts_stay_sound :
    ScoreLane.sound { ScoreLane.afterReset with openNote := some ⟨3, 20000, 100, 62, .p1, 5, 26⟩ }
      ∧ State.reset.su.sound ∧ State.reset.lr.sound ∧ State.reset.pt.sound ∧ State.reset.songSettingsInRange
      ∧ ∃ t, step (State.reset.withPending [.glyphLoad .player (thinGlyph 1023)]) = .next t := by
  refine ⟨⟨by decide, by decide, by decide, rfl, by decide, by decide, by decide, ?_⟩, ⟨?_, ?_⟩, ?_, ?_, ?_, _, rfl⟩
  · intro n h
    obtain rfl := Option.some.inj h
    decide
  · exact ⟨by decide, by decide, by decide, rfl, by decide, by decide, by decide, nofun⟩
  · exact ⟨by decide, by decide, by decide, rfl, by decide, by decide, by decide, nofun⟩
  · unfold LyricRenderer.sound; decide
  · refine ⟨by decide, by decide, by decide, by decide, fun l => ?_⟩
    cases l <;> exact ⟨List.length_replicate, nofun⟩
  · refine ⟨nofun, nofun, ?_, by decide⟩
    unfold pitchAndPace; decide

theorem test_meets_profile_and_picture :
    State.reset.settingsInRange ∧ ∃ t, step (State.reset.withPending [.outputFrameStart]) = .next t := by
  refine ⟨⟨test_meets_reset_is_sound, ?_, nofun, nofun, by decide, by decide, by decide, by decide, nofun⟩, _, rfl⟩
  exact test_meets_reset_is_sound

theorem test_meets_applied_queue_changes_only_at_ends :
    endsOperation (.hold .panel1 3) = false ∧ ∃ t, exec (.hold .panel1 3) fullRoom = .next t :=
  ⟨rfl, _, rfl⟩

theorem test_meets_panels_reach_only_their_own :
    (∃ t, exec (.panelFrame .one [0xA5#8, 0x61#8]) fullRoom = .next t)
      ∧ rightsHold ((after (exec (.rights .player 1 (some 0#8)) State.reset)).port .panel1).rights .key = false :=
  ⟨⟨_, rfl⟩, by decide⟩

theorem test_meets_player_frame :
    (Instr.wellFormed (.add .player { plainAdd 999999 with title := [65], startKey := -6 })) = true
      ∧ (commandFrame (.add .player { plainAdd 999999 with title := [65], startKey := -6 })).map
          (fun f => (f.source, f.params))
        = some (.player, [0x0F#8, 0x42#8, 0x3F#8, 1#8, 0#8, 65#8, 0#8, 0#8, 0#8, 0xFA#8, 100#8, 0#8])
      ∧ State.reset.ports.transaction = none := by decide

theorem test_meets_panel_frame :
    Instr.wellFormed (.hold .panel1 999) = true
      ∧ commandFrame (.hold .panel1 999) = some ⟨(Panel.one).source, .hold, [0x03#8, 0xE7#8]⟩
      ∧ (State.reset.port (Panel.one).source).receiver = .hunting := by decide

theorem test_meets_answer_fills_the_reply_place :
    State.reset.portsConsistent ∧ (State.reset.port .panel1).replyPlace = none
      ∧ (State.reset.port .panel1).transmitter = none := by
  refine ⟨⟨fun src => ?_, fun panel => ?_, nofun, rfl⟩, rfl, rfl⟩
  · cases src <;> exact ⟨by decide, by decide, nofun, nofun⟩
  · cases panel <;> exact fun _ => rfl

theorem test_meets_busy_and_not_here :
    commandFrame (.zones .panel1 0 0 0) = some ⟨.panel1, .zones, [0#8, 0#8, 0#8, 0#8]⟩ ∧ State.reset.inReset = false
      ∧ (busyPorts.port .panel1).condition ≠ .free ∧ (State.reset.port .panel1).condition = .free
      ∧ Command.zones.onPanels = false ∧ (State.reset.port .panel1).refusalPlace = none
      ∧ ((State.reset.refuse .panel1 0x53#8 .busy).port .panel1).refusalPlace.isSome = true := by decide

/-- The edges of the checks: length bytes 250 and 251, the codes beside the table's ranges, lengths one off. -/
theorem test_meets_frame_checks :
    (State.reset.port (Panel.one).source).receiver = .hunting ∧ State.reset.ports.transaction = none
      ∧ 250 < (0xFB#8).toNat ∧ (0xFA#8).toNat = (List.replicate 250 0#8).length ∧ ([] : List Byte).length ≠ (1#8).toNat
      ∧ (∀ code ∈ [0x0F#8, 0x1B#8, 0x24#8, 0x34#8, 0x4B#8, 0x55#8, 0x63#8, 0x73#8],
          ∀ r ∈ [(0x10, 0x1A), (0x20, 0x23), (0x30, 0x33), (0x40, 0x4A), (0x50, 0x54), (0x60, 0x62), (0x70, 0x72)],
            code.toNat < r.1 ∨ r.2 < code.toNat)
      ∧ Command.hold.onPanels = true ∧ Command.hold.lengthOk [0#8] = false
      ∧ Command.loadData.lengthOk (List.replicate 256 0#8) = false := by decide +kernel

theorem test_meets_edits_arrive :
    editOf (.add .panel1 (plainAdd 999999)) = some ⟨.panel1, .add (plainAdd 999999)⟩
      ∧ State.reset.accepts .panel1 .add ∧ Edit.admitted (.add (plainAdd 999999))
      ∧ ¬ Edit.admitted (.add (plainAdd 1000000)) ∧ ¬ Edit.admitted (.singerAdd [])
      ∧ State.reset.qm.inFlight = none ∧ (editing .panel2 .uncue []).accepts .panel1 .add
      ∧ (editing .panel2 .uncue []).qm.inFlight ≠ none ∧ State.reset.accepts .player .takeNext
      ∧ (editing .panel2 .uncue []).accepts .player .takeNext := by
  unfold State.accepts Edit.admitted; decide

theorem test_meets_edits_end :
    endOf .holdApplied = some .hold ∧ (editing .panel1 (.hold 3) []).inReset = false
      ∧ (editing .panel1 (.hold 3) []).qm.inFlight = some ⟨.edit ⟨.panel1, .hold 3⟩, 0b1000#4, 0⟩
      ∧ (let f : InFlight := ⟨.edit ⟨.panel1, .hold 3⟩, 0b1000#4, 0⟩
        let none_ := QueueManager.applyEdit (editing .panel1 (.hold 3) []).qm f .panel1 (.hold 3)
        let one := QueueManager.applyEdit (editing .panel1 (.hold 3) [entry 3 9 .waiting]).qm f .panel1 (.hold 3)
        none_.qm.queue = [] ∧ none_.qm.roster = State.reset.qm.roster ∧ one.qm.queue ≠ [entry 3 9 .waiting]) := by
  decide

/-- A LOAD-DATA in flight at a slot that a drop picks, and one at a slot it does not. -/
theorem test_meets_drops :
    let s := (withSlot (.loading (freshLoad none))).withSl ⟨.loading (freshLoad none), .empty, some ⟨.a, endMark⟩⟩
    s.sl.inFlight = some ⟨.a, endMark⟩ ∧ carriesTicket 7 (s.sl.get .a) = true ∧ carriesTicket 8 (s.sl.get .a) = false := by
  decide

/-- A TAKE-NEXT that waits with one edit ahead of it. -/
def waitingTake (e : Edit) : State :=
  State.reset.withQm
    { QueueManager.afterReset with
      queue := [entry 31 1 .waiting], backlog := [⟨.panel1, e⟩], takeNext := some 1, inFlight := some ⟨.takeNext, 0#4, 0⟩ }

theorem test_meets_hits_decide_the_choice :
    (waitingTake (.withdraw 31)).qm.notices = [] ∧ (waitingTake (.withdraw 31)).qm.takeNext = some 1
      ∧ (waitingTake (.withdraw 31)).qm.backlog = [⟨.panel1, .withdraw 31⟩]
      ∧ (∃ item ∈ (waitingTake (.withdraw 31)).qm.backlog.take 1, item.edit.hits 0 (some (entry 31 1 .waiting)) = true)
      ∧ (∀ item ∈ (waitingTake (.withdraw 30)).qm.backlog.take 1,
          item.edit.hits 0 (some (entry 31 1 .waiting)) = false)
      ∧ State.reset.qm.notices = [] ∧ State.reset.qm.takeNext = none ∧ State.reset.qm.backlog = [] := by decide

theorem test_meets_add_makes_an_entry :
    QueueManager.wellKept { QueueManager.afterReset with queue := [entry 999 1 .waiting], ticketCounter := 999 }
      ∧ (∀ k ∈ (List.replicate 40 (entry 1 5 .playing)), k.song = 5 → k.state = .cued ∨ k.state = .playing)
      ∧ 40 ≤ (List.replicate 40 (entry 1 5 .playing)).length ∧ (List.replicate 39 (entry 1 5 .cued)).length < 40 := by
  unfold QueueManager.wellKept; decide

theorem test_meets_add_is_gathered :
    [entry 1 10 .cued, entry 2 10 .held].find? (fun k => (k.state == .waiting || k.state == .held) && k.song == 10)
      = some (entry 2 10 .held) := by decide

theorem test_meets_withdraw_outcome :
    (∀ e ∈ [entry 1 10 .playing], e.ticket ≠ 2)
      ∧ [entry 1 10 .playing].find? (fun k => k.ticket == 1) = some (entry 1 10 .playing)
      ∧ (entry 3 12 .waiting).state ≠ .playing ∧ (∀ r ∈ (entry 3 12 .waiting).requesters, r.source ≠ .panel2)
      ∧ rightsHold 0b1000#4 .cancelAny = false ∧ (∀ r ∈ (entry 3 12 .cued).requesters, r.source = .panel1)
      ∧ rightsHold 0b0010#4 .cancelAny = true
      ∧ (∃ r ∈ [(⟨.panel1, 1⟩ : Requester), ⟨.player, 15⟩], r.source = .panel1)
      ∧ (∃ r ∈ [(⟨.panel1, 1⟩ : Requester), ⟨.player, 15⟩], r.source ≠ .panel1) := by decide

theorem test_meets_hold_and_release :
    [entry 1 10 .waiting, entry 2 11 .held].find? (fun k => k.ticket == 1) = some (entry 1 10 .waiting)
      ∧ [entry 1 10 .waiting, entry 2 11 .held].find? (fun k => k.ticket == 2) = some (entry 2 11 .held)
      ∧ (∀ e ∈ [entry 1 10 .waiting], e.ticket ≠ 2) ∧ (entry 1 10 .cued).state ≠ .waiting
      ∧ (entry 1 10 .cued).state ≠ .held
      ∧ (∀ r ∈ (entry 1 10 .waiting).requesters, r.source ≠ .panel2)
      ∧ (∃ r ∈ (entry 1 10 .waiting).requesters, r.source = .panel1)
      ∧ (entry 2 11 .held).holder ≠ some .panel2 ∧ (entry 2 11 .held).holder = some .panel1 := by decide

theorem test_meets_raise_and_lower :
    rightsHold 0b1000#4 .raise = false ∧ rightsHold 0b0100#4 .raise = true
      ∧ [entry 1 10 .cued, entry 2 11 .held].find? (fun k => k.ticket == 1) = some (entry 1 10 .cued)
      ∧ [entry 1 10 .cued, entry 2 11 .held].find? (fun k => k.ticket == 2) = some (entry 2 11 .held)
      ∧ ∀ e ∈ [entry 1 10 .cued], e.ticket ≠ 2 := by decide

theorem test_meets_clear_queue_ends :
    (editing .player .clearQueue [entry 1 10 .playing]).inReset = false
      ∧ (editing .player .clearQueue [entry 1 10 .playing]).qm.inFlight
        = some ⟨.edit ⟨.player, .clearQueue⟩, 0b1000#4, 0⟩
      ∧ ([entry 1 10 .playing, entry 2 11 .waiting].filter (fun e => e.state == .cued || e.state == .playing)).length < 2
      ∧ ([entry 1 10 .playing].filter (fun e => e.state == .cued || e.state == .playing)).length = 1
      ∧ State.reset.inReset = false ∧ (State.reset.port .panel1).condition = .free := by decide

/-- A roster with one singer in place 1 and one whose 16 places are taken. -/
def oneSinger : QueueManager := { QueueManager.afterReset with roster := (Vector.replicate 16 none).set 0 (some ⟨[65], .panel1⟩) }
def fullRoster : QueueManager := { QueueManager.afterReset with roster := Vector.replicate 16 (some ⟨[65], .panel1⟩) }

theorem test_meets_singer_edits :
    oneSinger.singerAt 1 = some ⟨[65], .panel1⟩ ∧ oneSinger.singerAt 2 = none
      ∧ (∀ m, m < 17 → ∀ g, oneSinger.singerAt m = some g → g.name ≠ [66])
      ∧ (∀ m < 17, 1 ≤ m → fullRoster.singerAt m = some ⟨[65], .panel1⟩) ∧ oneSinger.singerAt 17 = none := by
  refine ⟨by decide, by decide, ?_, by decide, by decide⟩
  intro m h
  interval_cases m <;> simp [oneSinger, QueueManager.singerAt]

theorem test_meets_uncue :
    (∀ e ∈ [entry 1 10 .playing], e.state ≠ .cued)
      ∧ [entry 1 10 .playing, entry 2 11 .cued, entry 3 11 .held].find? (fun e => e.state == .cued)
        = some (entry 2 11 .cued)
      ∧ (∀ k ∈ [entry 1 11 .playing], k.song = 11 → k.state = .cued ∨ k.state = .playing)
      ∧ [entry 1 10 .playing, entry 3 11 .held].find?
          (fun k => (k.state == .waiting || k.state == .held) && k.song == 11) = some (entry 3 11 .held) := by decide

theorem test_meets_take_next_ends :
    (applying .takeNext [entry 1 10 .cued]).inReset = false
      ∧ (applying .takeNext [entry 1 10 .cued]).qm.inFlight = some ⟨.takeNext, 0b1000#4, 0⟩
      ∧ (∃ e ∈ [entry 1 10 .cued], e.state = .cued)
      ∧ (∀ e ∈ [entry 1 10 .playing, entry 2 11 .held], e.state ≠ .cued ∧ e.state ≠ .waiting)
      ∧ (∀ k ∈ [entry 1 10 .held, entry 2 11 .waiting], k.state ≠ .cued)
      ∧ [entry 1 10 .held, entry 2 11 .waiting].find? (fun k => k.state == .waiting) = some (entry 2 11 .waiting) := by
  decide

theorem test_meets_notices_end :
    (applying (.notice (.start 40)) [entry 40 1 .cued]).qm.inFlight = some ⟨.notice (.start 40), 0b1000#4, 0⟩
      ∧ [entry 40 1 .cued].find? (fun k => k.state == .cued) = some (entry 40 1 .cued)
      ∧ (∀ e ∈ [entry 39 1 .cued], e.ticket ≠ 40)
      ∧ (applying (.notice (.retire .stopped 5 ⟨noFinals, noFinals⟩)) []).qm.inFlight
        = some ⟨.notice (.retire .stopped 5 ⟨noFinals, noFinals⟩), 0b1000#4, 0⟩
      ∧ [entry 1 2 .playing, entry 2 3 .cued].find? (fun k => k.state == .playing) = some (entry 1 2 .playing)
      ∧ (applying (.notice (.reset 5)) []).qm.inFlight = some ⟨.notice (.reset 5), 0b1000#4, 0⟩
      ∧ (∀ k ∈ [entry 1 2 .held], k.state ≠ .playing ∧ k.state ≠ .cued)
      ∧ (∃ k ∈ [entry 1 2 .cued], k.state = .playing ∨ k.state = .cued) := by decide

theorem test_meets_queue_reads :
    fullRoom.accepts .panel1 .list ∧ fullRoom.accepts .panel2 .query ∧ fullRoom.accepts .panel3 .history
      ∧ fullRoom.accepts .player .roster ∧ fullRoom.qm.queue.find? (fun k => k.ticket == 4) = some (entry 4 13 .held)
      ∧ (∀ e ∈ fullRoom.qm.queue, e.ticket ≠ 5) ∧ 1 ≤ (some 16 : Option Nat).getD 1
      ∧ (some 0 : Option Nat).getD 1 = 0 ∧ (none : Option Nat).getD 1 = 1 := by
  unfold State.accepts; decide

theorem test_meets_load_opens :
    (withSlot .empty).accepts .player .loadOpen
      ∧ (withSlot .empty).qm.queue.find? (fun k => k.state == .cued) = some (entry 7 30044 .cued)
      ∧ (entry 7 30044 .cued).ticket ≠ 8 := by
  unfold State.accepts; decide

theorem test_meets_load_data :
    (withSlot .empty).accepts .player .loadData ∧ endMark.length % 16 = 0 ∧ 16 ≤ endMark.length ∧ endMark.length ≤ 240
      ∧ (withSlot (.loading (freshLoad none))).sl.loadingSlot = some (.a, freshLoad none)
      ∧ ((freshLoad none).applyFrame 0 (recordsOf endMark)).ending = .going
      ∧ ((freshLoad (some 1)).applyFrame 0 (recordsOf endMark)).ending = .complete
      ∧ ((freshLoad none).applyFrame 0 (recordsOf (endMark ++ endMark))).ending = .failed .extra
      ∧ ∀ l, (withSlot .empty).sl.slotA ≠ .loading l ∧ (withSlot .empty).sl.slotB ≠ .loading l := by
  refine ⟨⟨rfl, rfl, rfl⟩, by decide, by decide, by decide, by decide, by decide, by decide, by decide, ?_⟩
  exact fun _ => ⟨nofun, nofun⟩

/-- One record that goes on, one that completes with END last, one that completes without, and one that fails. -/
theorem test_meets_apply_frame :
    let verse : List Byte := [0x04#8, 0x01#8] ++ List.replicate 14 0#8
    ((freshLoad none).applyRecord endMark).2 = none ∧ ((freshLoad none).applyRecord endMark).1.remaining ≠ some 0
      ∧ ((freshLoad (some 1)).applyRecord endMark).1.remaining = some 0
      ∧ ((freshLoad (some 1)).applyRecord endMark).1.records.getLast? = some (.mark .finish 15400)
      ∧ ((freshLoad (some 1)).applyRecord verse).1.remaining = some 0
      ∧ ((freshLoad (some 1)).applyRecord verse).1.records.getLast? = some (.mark .verse 0)
      ∧ ((freshLoad none).applyRecord [9#8]).2 = some .badRecord := by decide

theorem test_meets_load_closes_and_aborts :
    (withSlot (.loading (freshLoad (some 1)))).accepts .player .loadClose
      ∧ (withSlot (.loading (freshLoad (some 1)))).accepts .player .loadAbort
      ∧ (withSlot (.loading (freshLoad (some 1)))).sl.loadingSlot = some (.a, freshLoad (some 1))
      ∧ (freshLoad (some 1)).tracking.ended = false
      ∧ ((freshLoad none).applyFrame 0 (recordsOf endMark)).load.tracking.ended = true
      ∧ (withSlot (.failed ⟨7, [], 0, .short⟩)).sl.carrying 7 = some .a
      ∧ ((withSlot (.failed ⟨7, [], 0, .short⟩)).sl.get .a).isPlaying = false
      ∧ (withSlot .empty).sl.carrying 7 = none := by
  unfold State.accepts; decide

theorem test_meets_records_checked :
    (freshLoad none).tracking.ended = false ∧ decodeRecord .little [9#8] = none
      ∧ decodeRecord .little endMark = some (.mark .finish 15400)
      ∧ (freshLoad none).tracking.check (RawRecord.mark .finish 15400).clamp.1 = none
      ∧ (freshLoad none).tracking.check (RawRecord.mark .finish 1200000).clamp.1 = some .timeRange
      ∧ 6144 ≤ (List.replicate 6144 (CueRecord.mark .verse 0)).length
      ∧ ((freshLoad none).applyRecord endMark).1.tracking.ended = true := by
  refine ⟨by decide, by decide, by decide, by decide, by decide, ?_, by decide⟩
  rw [List.length_replicate]

/-- Every changed field counts, up to the top of R44's range and with all places taken too (R44, R61). -/
theorem test_clamp_count :
    Load.clampsWith { freshLoad none with clamps := 12288 } 2 = 12288
      ∧ Load.clampsWith { freshLoad none with records := List.replicate 6144 (.mark .verse 0) } 2 = 2 := ⟨rfl, rfl⟩

theorem test_meets_start :
    (onStage .paused).accepts .player .start ∧ (onStage .paused).sc.stage ≠ .ready ∧ (onStage .paused).sc.stage ≠ .result
      ∧ (withSlot (.loaded (shortSong 7))).accepts .player .start
      ∧ (withSlot (.loaded (shortSong 7))).sc.stage = .ready
      ∧ (withSlot (.loaded (shortSong 7))).qm.queue.find? (fun k => k.state == .cued) = some (entry 7 30044 .cued)
      ∧ (withSlot (.loaded (shortSong 7))).sl.carrying 7 = some .a ∧ (shortSong 7).index.endTime = some 1000
      ∧ (withSlot .empty).sl.carrying 7 = none ∧ State.reset.qm.inFlight = none
      ∧ (editing .panel2 .uncue []).qm.inFlight ≠ none := by
  unfold State.accepts; decide

theorem test_meets_start_confirmed_or_lost :
    let s := (State.reset.withSc { State.reset.sc with stage := .starting, pendingStart := some ⟨7, 500, .ready⟩ })
    s.inReset = false ∧ s.sc.pendingStart = some ⟨7, 500, .ready⟩
      ∧ (s.withQm { s.qm with toStage := [.start 1 100 true] }).qm.toStage = .start 1 100 true :: []
      ∧ (s.withQm { s.qm with toStage := [.cueLost] }).qm.toStage = .cueLost :: [] := by decide

theorem test_meets_stage_commands :
    (onStage .playing).accepts .player .pause ∧ (onStage .paused).accepts .player .resume
      ∧ (onStage .playing).accepts .player .sync ∧ (onStage .paused).accepts .panel1 .key
      ∧ (onStage .playing).accepts .panel1 .keyStep ∧ (onStage .playing).accepts .player .tempo
      ∧ (onStage .playing).accepts .player .stop ∧ (onStage .result).accepts .player .skipResult
      ∧ (onStage .starting).accepts .player .stageReset ∧ (onStage .ready).accepts .player .stageReset
      ∧ (onStage .playing).sc.endTime = some 1000 ∧ rightsHold ((onStage .playing).port .panel1).rights .key = true
      ∧ rightsHold ((after (exec (.rights .player 1 (some 0#8)) (onStage .playing))).port .panel1).rights .key = false := by
  unfold State.accepts; decide

/-- At the edge of the window of 60 ms a SYNC corrects; one millisecond further it seeks. -/
theorem test_meets_sync :
    560 ≤ (onStage .playing).sc.songTime + (onStage .playing).ps.profile.syncWindow
      ∧ (onStage .playing).sc.songTime + (onStage .playing).ps.profile.syncWindow < 561
      ∧ (onStage .playing).sc.songTime ≤ 440 + (onStage .playing).ps.profile.syncWindow
      ∧ 439 + (onStage .playing).ps.profile.syncWindow < (onStage .playing).sc.songTime := by decide

theorem test_meets_stop_and_retire :
    let s := (onStage .ending).withQm { QueueManager.afterReset with toStage := [.retire] }
    s.inReset = false ∧ s.qm.toStage = .retire :: [] ∧ s.sc.stage ≠ .resetting ∧ s.ps.profile.resultHold ≠ 0
      ∧ (s.port .player).condition ≠ .outstanding Command.stop.code
      ∧ ((s.route .player .stop).port .player).condition = .outstanding Command.stop.code
      ∧ (after (exec (.profileSet .player 0x62 0) State.reset)).ps.profile.resultHold = 0 := by decide

theorem test_meets_result_ends :
    (onStage .result (.running 2)).inReset = false ∧ (onStage .result (.running 2)).sc.stage = .result
      ∧ (onStage .result (.running 2)).sc.hold = .running 2 ∧ (onStage .result (.running 1)).sc.hold = .running 1 := by
  decide

theorem test_meets_stage_reset :
    let s := (onStage .resetting).withQm { QueueManager.afterReset with toStage := [.reset] }
    s.inReset = false ∧ s.qm.toStage = .reset :: [] := by decide

theorem test_meets_millisecond :
    (onStage .playing).inReset = false ∧ (onStage .playing).sc.stage = .playing ∧ (onStage .playing).sc.endTime = some 1000
      ∧ 100 ≤ (onStage .playing).sc.remainder + (onStage .playing).sc.tempo ∧ 0 + 85 < 100 ∧ 99 + 100 < 200
      ∧ 200 ≤ 85 + 115 := by decide

/-- A millisecond outside PLAYING, in RESULT without a running timer, and with the loss timer at its last but one. -/
theorem test_meets_idle_millisecond :
    (onStage .paused).inReset = false ∧ (onStage .paused).sc.stage ≠ .playing ∧ (onStage .paused).sc.stage ≠ .result
      ∧ (∀ n, (onStage .result).sc.hold ≠ .running n)
      ∧ (∀ n, some 2 = some n → 1 < n) := by
  refine ⟨rfl, nofun, nofun, nofun, fun n h => ?_⟩
  obtain rfl := Option.some.inj h
  decide

/-- Whatever the free value is, one of the two ways to move on from a sum of 200 is open. -/
theorem test_meets_millisecond_at_200 : Config.tempoCarry 200 = none ∨ ∃ r, Config.tempoCarry 200 = some r := by
  cases Config.tempoCarry 200 with
  | none => exact Or.inl rfl
  | some r => exact Or.inr ⟨r, rfl⟩

theorem test_meets_status_reads :
    State.reset.accepts .panel1 .status ∧ State.reset.accepts .panel2 .lyricStatus
      ∧ State.reset.accepts .panel3 .videoStatus
      ∧ (VideoCompositor.lastMeasured { State.reset.vc with lastMeasured := some ⟨65535, 720, true⟩ }).getD ⟨0, 0, false⟩
        = ⟨65535, 720, true⟩ := by
  unfold State.accepts; decide

/-- A song with an INTERLUDE mark at 300 behind song time 500: the hold's premises. -/
theorem test_meets_interlude_hold :
    State.reset.inReset = false ∧ State.reset.vc.lock = .lost ∧ State.reset.vc.internalTiming = true
      ∧ ∀ m, m ∈ [300] ↔ CueRecord.mark .interlude m ∈ [CueRecord.mark .interlude 300, .mark .finish 1000] ∧ m ≤ 500 := by
  refine ⟨rfl, rfl, rfl, fun m => ?_⟩
  simp
  omega

/-- A receiver before the first frame, between the channels, and before the last bit of the right channel's sample. -/
theorem test_meets_analysis_frame :
    State.reset.inReset = false ∧ State.reset.pt.receiver = ⟨none, false, [], none⟩
      ∧ ((sampleBits 0x8001#16).take 15 ++ [true]).take 16 = sampleBits 0x8001#16
      ∧ (State.reset.pt.inProgress ++ [(1#16, 2#16)]).length < 480
      ∧ 480 ≤ (List.replicate 479 (0#16, 0#16) ++ [(1#16, 2#16)]).length ∧ State.reset.su.guarded = false
      ∧ ((after (exec .startConfirmation ((State.reset.withSc
            { State.reset.sc with stage := .starting, pendingStart := some ⟨7, 500, .ready⟩ }).withQm
            { QueueManager.afterReset with toStage := [.start 0 100 false] }))).su.guarded = true) := by
  refine ⟨rfl, rfl, by decide, by decide, ?_, rfl, by decide⟩
  rw [List.length_append, List.length_replicate]
  decide

theorem test_meets_level :
    (List.replicate 480 (-32768 : Int)).length = 480 ∧ (∀ v ∈ List.replicate 480 (-32768 : Int), v.natAbs ≤ 32768)
      ∧ (∀ v ∈ List.replicate 480 (-32768 : Int), v = -32768) := by
  refine ⟨List.length_replicate, ?_, fun v h => List.eq_of_mem_replicate h⟩
  intro v h
  rw [List.eq_of_mem_replicate h]
  decide

theorem test_meets_voicing :
    (List.replicate 480 (0 : Int) ++ List.replicate 480 (1 : Int)).length = 960 ∧ (11 : Nat) ≤ 368 := by
  refine ⟨?_, by decide⟩
  rw [List.length_append, List.length_replicate, List.length_replicate]

theorem test_meets_frame_quality :
    (-600 : Int) ≤ 15 ∧ (15 : Int) ≤ 599 ∧ (5215 : Int) - 100 * (62 + 2) = 15 + 1200 * (-1)
      ∧ (70 : Int) = 6470 - 100 * (62 + 2) ∧ 50 < (70 : Int).natAbs ∧ (70 : Int).natAbs < 2 * 50 := by decide

theorem test_meets_note_closes :
    let k : ScoreLane := { ScoreLane.afterReset with openNote := some ⟨3, 20000, 100, 62, .p1, 5, 26⟩ }
    k.openNote = some ⟨3, 20000, 100, 62, .p1, 5, 26⟩ ∧ k.graded < 6144 ∧ k.frameCount + 5 ≤ 131071
      ∧ 6144 ≤ ({ k with graded := 6144 } : ScoreLane).graded
      ∧ 131071 < ({ k with frameCount := 131067 } : ScoreLane).frameCount + 5 := by decide

/-- A P2 and a P1 note sound together at time 100, and the resume times 100 and 101 stand on either side of their start. -/
theorem test_meets_active_note :
    let notes : List NoteAt := [⟨0, 100, 20, 60, .p2⟩, ⟨1, 100, 20, 62, .p1⟩]
    let found := notes.filter (fun n =>
      decide (n.start ≤ 100 ∧ 100 < n.start + n.duration ∧ (SongMode.solo = .solo ∨ n.part = .both ∨ n.part = .p1)))
    found.find? (fun m => m.part == .p1) = some ⟨1, 100, 20, 62, .p1⟩ ∧ (∃ r, some 101 = some r ∧ 100 < r)
      ∧ (∀ r, some 100 = some r → r ≤ 100) := by
  refine ⟨by decide, ⟨101, rfl, by decide⟩, fun r h => ?_⟩
  obtain rfl := Option.some.inj h
  exact Nat.le_refl _

theorem test_meets_lyric_rows_fit :
    rowsHeld State.reset.lr.stack ≤ (State.reset.lyricInputs 0).geometry.rows ∧ State.reset.lyricRowsFit
      ∧ ∃ t, step (State.reset.withPending [.outputFrameStart]) = .next t := by
  refine ⟨by decide, ⟨?_, fun _ => rfl, by decide⟩, _, rfl⟩
  rintro (h | h) <;> cases h

theorem test_meets_glyphs_and_idle_text :
    State.reset.accepts .player .glyphLoad ∧ State.reset.accepts .player .idleText
      ∧ glyphTableWf State.reset.lr.glyphs ∧ (thinGlyph 1023).code ≤ 1023 ∧ 1023 < (thinGlyph 1024).code
      ∧ 48 < (List.replicate 49 65).length ∧ (List.replicate 48 65).length ≤ 48
      ∧ ∀ c ∈ List.replicate 48 1023, c ≤ 1023 := by
  unfold State.accepts; decide

theorem test_meets_zones_and_frame_start :
    State.reset.accepts .player .zones ∧ 64 + 496 + 160 ≤ State.reset.vc.height ∧ State.reset.vc.height < 64 + 497 + 160
      ∧ State.reset.inReset = false ∧ State.reset.vc.lock = .lost ∧ State.reset.vc.internalTiming = true
      ∧ State.reset.settingsInRange :=
  ⟨⟨rfl, rfl, rfl⟩, by decide, by decide, rfl, rfl, rfl, test_meets_profile_and_picture.1⟩

/-- The sizes a frame start can bring in, and the parts that make none. -/
theorem test_meets_frame_start_of_any_kind :
    State.reset.settingsInRange ∧ (640, 360) = (some (640, 360)).getD (State.reset.vc.width, State.reset.vc.height)
      ∧ (1280, 720) = (none : Option (Nat × Nat)).getD (State.reset.vc.width, State.reset.vc.height)
      ∧ (State.reset.withVc { State.reset.vc with lock := .locked }).vc.lock = .locked :=
  ⟨test_meets_profile_and_picture.1, rfl, rfl, rfl⟩

theorem test_meets_ticker_moves_on :
    State.reset.tu.mark = true ∧ 5 ≠ State.reset.tu.builtCount ∧ State.reset.inReset = false ∧ State.reset.vc.lock = .lost
      ∧ State.reset.vc.internalTiming = true ∧ 99999999999999999999 < 10 ^ 20 := by decide

theorem test_meets_lock_follows_the_input :
    (Measurement.close ⟨80, 720, 1280, true⟩).inRange = true ∧ (Measurement.close ⟨81, 720, 1280, true⟩).inRange = false
      ∧ State.reset.vc.lock = .lost ∧ (Measurement.close ⟨16, 0, 0, true⟩).width = 0
      ∧ (let s := State.reset.withVc { State.reset.vc with lock := .locked, lossTimer := some 2 }
        s.inReset = false ∧ s.vc.lock = .locked ∧ s.vc.lossTimer = some 2) := by decide

/-- A line of each band of the first picture: 40 lines of ticker, 176 of lyric and 96 of meter in 720 (R152). -/
theorem test_meets_bands :
    let s := after (exec .outputFrameStart State.reset)
    s.vc.picture.isSome = true ∧ s.vc.live.ht + s.vc.live.hl + s.vc.live.hm ≤ s.vc.height ∧ 39 < s.vc.live.ht
      ∧ s.vc.live.ht ≤ 40 ∧ 447 + s.vc.live.hl + s.vc.live.hm < s.vc.height
      ∧ s.vc.height ≤ 448 + s.vc.live.hl + s.vc.live.hm ∧ 623 + s.vc.live.hm < s.vc.height
      ∧ s.vc.height ≤ 624 + s.vc.live.hm ∧ 719 < s.vc.height := by decide

theorem test_meets_blend :
    (16 : Nat) ≤ 16 ∧ State.reset.vc.lock = .lost ∧ State.reset.settingsInRange ∧ State.reset.vc.picture = none
      ∧ 719 < State.reset.vc.height ∧ State.reset.vc.height ≤ 720 ∧ 1279 < State.reset.vc.width :=
  ⟨by decide, rfl, test_meets_profile_and_picture.1, rfl, by decide, by decide, by decide⟩

theorem test_meets_replies_are_delivered :
    State.reset.ports.player.first = none ∧ State.reset.ports.transaction = none ∧ busyPorts.ports.transaction = none
      ∧ (∃ t, exec (.playerWriteTransaction (0x3C#8 :: [0x1A#8]) none) State.reset = .next t)
      ∧ (∃ t, exec (.playerReadTransaction 2 none) busyPorts = .next t) ∧ busyPorts.inReset = false ∧ busyPorts.ports.player.first = some .reply
      ∧ busyPorts.ports.player.replyPlace.isSome = true ∧ (State.reset.port .panel1).transmitter = none
      ∧ (busyPorts.port .panel1).transmitter.isSome = true ∧ (busyPorts.port .panel1).consistent
      ∧ (busyPorts.port .panel1).receiver = .hunting ∧ crc8 [0x61#8, 0x00#8] ≠ 0x00#8 :=
  ⟨rfl, rfl, rfl, ⟨_, rfl⟩, ⟨_, rfl⟩, rfl, rfl, rfl, rfl, rfl, busyPorts_consistent.1 .panel1, rfl, by decide +kernel⟩

theorem test_meets_port_settings :
    State.reset.accepts .player .rights ∧ State.reset.accepts .panel1 .events ∧ State.reset.accepts .panel1 .mask
      ∧ sourceNumber (Panel.three).source = 3 ∧ 16 ≤ (0x10#8).toNat ∧ (0x0F#8).toNat < 16 := by
  unfold State.accepts; decide

theorem test_meets_profile_fields :
    fieldOf 0x64 = none ∧ fieldOf 0x20 = some (.setColour .p1 .unsung .red) ∧ fieldOf 0x63 = some .defaultRights ∧ State.reset.accepts .panel1 .profileGet
      ∧ State.reset.accepts .player .profileSet := by
  unfold State.accepts; decide

theorem test_meets_profile_is_saved :
    State.reset.accepts .player .profileSave
      ∧ (after (exec (.profileSave .player) State.reset)).ps.saving = some Profile.defaults := by
  unfold State.accepts; decide

end Sys2Proof.Tests
end

section
/-! PROOFS. The request queue (chapter 1): what ADD, HOLD, RELEASE, CLEAR-QUEUE and the singer edits do. First the laws of
the operations they share, then each statement from them. -/

namespace Sys2Proof.Machine

/-! ### Entries found by ticket, by song and by source (R2, R11, R13) -/

theorem findTicket_eq_none_iff {q : List Entry} {t : Nat} :
    findTicket q t = none ↔ ∀ e ∈ q, e.ticket ≠ t := by
  simp [findTicket]

theorem Entry.hasPair_iff {e : Entry} {src : Source} :
    e.hasPair src = true ↔ ∃ r ∈ e.requesters, r.source = src := by
  simp [Entry.hasPair]

theorem Entry.not_waits_eq (e : Entry) : (!e.waits) = (e.state == .cued || e.state == .playing) := by
  unfold Entry.waits
  cases e.state <;> rfl

theorem waitingSong_eq_none_iff {q : List Entry} {song : Nat} :
    waitingSong q song = none ↔ ∀ k ∈ q, k.song = song → k.state = .cued ∨ k.state = .playing := by
  have waits_iff (k : Entry) : k.waits = false ↔ k.state = .cued ∨ k.state = .playing := by
    rw [← Bool.not_eq_true', Entry.not_waits_eq]
    simp
  simp only [waitingSong, List.find?_eq_none, Bool.and_eq_true, beq_iff_eq, not_and', Bool.not_eq_true, waits_iff]

/-! ### Positions (R3) -/

/-- A position depends on the tickets of the queue alone. -/
theorem positionOf_eq_findIdx_map (q : List Entry) (t : Nat) :
    positionOf q t = (q.map (fun e => e.ticket)).findIdx (fun k => k == t) := by
  rw [List.findIdx_map]
  rfl

/-- An entry changed in its place keeps its position. -/
theorem positionOf_updateTicket (q : List Entry) {t : Nat} {e : Entry} (h : e.ticket = t) :
    positionOf (updateTicket q t (fun _ => e)) t = positionOf q t := by
  rw [positionOf_eq_findIdx_map, map_ticket_updateTicket q t _ (fun _ _ => h), ← positionOf_eq_findIdx_map]

/-! ### Tickets (R4) -/

/-- The ticket that comes k after t, 1 after 999. -/
def ticketAfter (t k : Nat) : Nat := (t - 1 + k) % 999 + 1

theorem ticketAfter_zero {t : Nat} (h1 : 1 ≤ t) (h2 : t ≤ 999) : ticketAfter t 0 = t := by
  unfold ticketAfter; omega

theorem ticketAfter_succ {t : Nat} (h1 : 1 ≤ t) (h2 : t ≤ 999) (k : Nat) :
    ticketAfter t (k + 1) = ticketAfter (nextTicket t) k := by
  unfold ticketAfter nextTicket Config.lastTicket
  split <;> omega

theorem ticketAfter_inj {t j k : Nat} (hj : j < 999) (hk : k < 999) (h : ticketAfter t j = ticketAfter t k) : j = k := by
  unfold ticketAfter at h; omega

theorem nextTicket_range {t : Nat} (h : t ≤ 999) : 1 ≤ nextTicket t ∧ nextTicket t ≤ 999 := by
  unfold nextTicket Config.lastTicket
  split <;> omega

/-- The search stops at the first ticket that is not live, where one of those it tries is not. -/
theorem freeTicket_spec (live : Nat → Bool) (n t : Nat) (h1 : 1 ≤ t) (h2 : t ≤ 999)
    (free : ∃ k < n, live (ticketAfter t k) = false) :
    ∃ k < n, freeTicket live n t = ticketAfter t k ∧ live (ticketAfter t k) = false
      ∧ ∀ j < k, live (ticketAfter t j) = true := by
  induction n generalizing t with
  | zero => obtain ⟨k, hk, -⟩ := free; exact absurd hk (Nat.not_lt_zero k)
  | succ n ih =>
    by_cases hlive : live t = true
    · have later : ∃ k < n, live (ticketAfter (nextTicket t) k) = false := by
        obtain ⟨k, hk, hfree⟩ := free
        cases k with
        | zero => rw [ticketAfter_zero h1 h2, hlive] at hfree; exact Bool.noConfusion hfree
        | succ k => exact ⟨k, by omega, ticketAfter_succ h1 h2 k ▸ hfree⟩
      obtain ⟨k, hk, found, hfree, before⟩ := ih _ (nextTicket_range h2).1 (nextTicket_range h2).2 later
      rw [← ticketAfter_succ h1 h2] at found hfree
      refine ⟨k + 1, by omega, by rw [freeTicket, if_pos hlive, found], hfree, fun j hj => ?_⟩
      cases j with
      | zero => rwa [ticketAfter_zero h1 h2]
      | succ j => rw [ticketAfter_succ h1 h2]; exact before j (by omega)
    · have hfree : live (ticketAfter t 0) = false := by rw [ticketAfter_zero h1 h2]; simpa using hlive
      refine ⟨0, by omega, ?_, hfree, fun j hj => absurd hj (Nat.not_lt_zero j)⟩
      rw [freeTicket, if_neg hlive, ticketAfter_zero h1 h2]

theorem QueueManager.live_iff {q : QueueManager} {t : Nat} :
    q.live t = true ↔ (∃ e ∈ q.queue, e.ticket = t) ∨ ∃ h ∈ q.history, h.ticket = t := by
  simp [QueueManager.live]

theorem QueueManager.live_eq_false_iff {q : QueueManager} {t : Nat} :
    q.live t = false ↔ (∀ e ∈ q.queue, e.ticket ≠ t) ∧ ∀ h ∈ q.history, h.ticket ≠ t := by
  simp [QueueManager.live]

/-- At most 56 tickets are live, so one of the 999 from the counter on is free. -/
theorem QueueManager.exists_free_ticket {q : QueueManager} (hq : q.queue.length ≤ 40) (hh : q.history.length ≤ 16)
    (t : Nat) : ∃ k < 999, q.live (ticketAfter t k) = false := by
  by_contra hall
  simp only [not_exists, not_and, Bool.not_eq_false] at hall
  have distinct : ((List.range 999).map (ticketAfter t)).Nodup :=
    List.nodup_range.map_on fun j hj k hk => ticketAfter_inj (List.mem_range.1 hj) (List.mem_range.1 hk)
  have carried : (List.range 999).map (ticketAfter t)
      ⊆ q.queue.map (fun e => e.ticket) ++ q.history.map (fun h => h.ticket) := by
    intro x hx
    obtain ⟨k, hk, rfl⟩ := List.mem_map.1 hx
    simpa using QueueManager.live_iff.1 (hall k (List.mem_range.1 hk))
  have count := (distinct.subperm carried).length_le
  simp only [List.length_map, List.length_range, List.length_append] at count
  omega

/-! ### Single edits -/

/-- HOLD of a ticket no entry carries (R11). -/
theorem QueueManager.applyHold_of_none {q : QueueManager} {t : Nat} (src : Source)
    (h : findTicket q.queue t = none) : q.applyHold src t = q.unchanged (refusedWith .noTicket) := by
  simp [QueueManager.applyHold, h]

/-- HOLD of an entry (R18). -/
theorem QueueManager.applyHold_of_some {q : QueueManager} {t : Nat} {e : Entry} (src : Source)
    (h : findTicket q.queue t = some e) :
    q.applyHold src t
      = if e.state ≠ .waiting then q.unchanged (refusedWith .wrongState)
        else if src = .player ∨ ∃ r ∈ e.requesters, r.source = src then
          { qm :=
              { q with queue := updateTicket q.queue t (fun _ => { e with state := .held, holder := some src }) }
            answer := okWith (be2 t ++ be1 (positionOf q.queue t)) }
        else q.unchanged (refusedWith .notYours) := by
  simp [QueueManager.applyHold, h, QueueManager.placed, positionOf_updateTicket, (ticket_of_findTicket h).2,
    Entry.hasPair_iff]

/-- RELEASE of a ticket no entry carries (R11). -/
theorem QueueManager.applyRelease_of_none {q : QueueManager} {t : Nat} (src : Source)
    (h : findTicket q.queue t = none) : q.applyRelease src t = q.unchanged (refusedWith .noTicket) := by
  simp [QueueManager.applyRelease, h]

/-- RELEASE of an entry (R19). -/
theorem QueueManager.applyRelease_of_some {q : QueueManager} {t : Nat} {e : Entry} (src : Source)
    (h : findTicket q.queue t = some e) :
    q.applyRelease src t
      = if e.state ≠ .held then q.unchanged (refusedWith .wrongState)
        else if src = .player ∨ e.holder = some src then
          { qm :=
              { q with queue := updateTicket q.queue t (fun _ => { e with state := .waiting, holder := none }) }
            answer := okWith (be2 t ++ be1 (positionOf q.queue t)) }
        else q.unchanged (refusedWith .notYours) := by
  simp [QueueManager.applyRelease, h, QueueManager.placed, positionOf_updateTicket, (ticket_of_findTicket h).2]

/-- Settles O25: each clause is a branch of the two equations above. -/
theorem holdAndReleaseOutcome : Obligations.HoldAndReleaseOutcome := by
  unfold Obligations.HoldAndReleaseOutcome
  refine ⟨fun q f src ticket => ⟨fun missing => ?_, fun e found => ⟨fun state => ?_, fun state other noPair => ?_,
      fun state mine => ?_⟩⟩, fun q f src ticket => ⟨fun missing => ?_, fun e found => ⟨fun state => ?_,
      fun state other notHolder => ?_, fun state mine => ?_⟩⟩⟩
  · exact QueueManager.applyHold_of_none src (findTicket_eq_none_iff.2 missing)
  · exact (QueueManager.applyHold_of_some src found).trans (if_pos state)
  · have notMine : ¬ (src = .player ∨ ∃ r ∈ e.requesters, r.source = src) := by
      rintro (rfl | ⟨r, hr, hs⟩)
      · exact other rfl
      · exact noPair r hr hs
    exact (QueueManager.applyHold_of_some src found).trans ((if_neg (not_not.2 state)).trans (if_neg notMine))
  · exact (QueueManager.applyHold_of_some src found).trans ((if_neg (not_not.2 state)).trans (if_pos mine))
  · exact QueueManager.applyRelease_of_none src (findTicket_eq_none_iff.2 missing)
  · exact (QueueManager.applyRelease_of_some src found).trans (if_pos state)
  · exact (QueueManager.applyRelease_of_some src found).trans
      ((if_neg (not_not.2 state)).trans (if_neg (not_or.2 ⟨other, notHolder⟩)))
  · exact (QueueManager.applyRelease_of_some src found).trans ((if_neg (not_not.2 state)).trans (if_pos mine))

/-! ### Roster places (R5, R22, R23) -/

theorem QueueManager.singerAt_eq_getElem (q : QueueManager) {i : Nat} (h : i < 16) : q.singerAt (i + 1) = q.roster[i] := by
  simp [QueueManager.singerAt, h]

/-- The place a test picks is the lowest whose content passes it. -/
theorem QueueManager.placeWhere_eq_some {q : QueueManager} {test : Option Singer → Bool} {n : Nat} (h1 : 1 ≤ n)
    (h2 : n ≤ 16) (here : test (q.singerAt n) = true) (lower : ∀ m, 1 ≤ m → m < n → test (q.singerAt m) = false) :
    q.placeWhere test = some n := by
  obtain ⟨i, rfl⟩ : ∃ i, n = i + 1 := ⟨n - 1, by omega⟩
  have first : q.roster.toList.findIdx? test = some i := by
    rw [List.findIdx?_eq_some_iff_getElem]
    refine ⟨by simpa using h2, ?_, fun j hj => ?_⟩
    · simpa [q.singerAt_eq_getElem (Nat.lt_of_succ_le h2)] using here
    · simpa [q.singerAt_eq_getElem (show j < 16 by omega)] using lower (j + 1) (by omega) (by omega)
  rw [QueueManager.placeWhere, first]
  rfl

/-- A test no place's content passes picks none. -/
theorem QueueManager.placeWhere_eq_none {q : QueueManager} {test : Option Singer → Bool}
    (h : ∀ m, 1 ≤ m → m ≤ 16 → test (q.singerAt m) = false) : q.placeWhere test = none := by
  have nowhere : q.roster.toList.findIdx? test = none := by
    rw [List.findIdx?_eq_none_iff]
    intro x hx
    obtain ⟨i, hi, rfl⟩ := List.getElem_of_mem hx
    have hi : i < 16 := by simpa using hi
    simpa [q.singerAt_eq_getElem hi] using h (i + 1) (by omega) (by omega)
  rw [QueueManager.placeWhere, nowhere]
  rfl

/-- A place's content does not carry a name that its singer does not have. -/
theorem any_name_eq_false {r : Option Singer} {name : List Nat} (h : ∀ g, r = some g → g.name ≠ name) :
    r.any (fun g => g.name == name) = false := by
  cases r with
  | none => rfl
  | some g => simpa using h g rfl

/-- SINGER-ADD of a known name (R22). -/
theorem QueueManager.applySingerAdd_known {q : QueueManager} {name : List Nat} {n : Nat} (src : Source)
    (h : q.placeWhere (fun r => r.any (fun g => g.name == name)) = some n) :
    q.applySingerAdd src name = q.unchanged (okWith (be1 n) { gathered := true }) := by
  simp [QueueManager.applySingerAdd, h]

/-- SINGER-ADD of a new name with a free place (R22). -/
theorem QueueManager.applySingerAdd_free {q : QueueManager} {name : List Nat} {n : Nat} (src : Source)
    (new : q.placeWhere (fun r => r.any (fun g => g.name == name)) = none)
    (h : q.placeWhere (fun r => r.isNone) = some n) :
    q.applySingerAdd src name = { qm := q.setSinger n (some ⟨name, src⟩), answer := okWith (be1 n) } := by
  simp [QueueManager.applySingerAdd, new, h]

/-- SINGER-ADD of a new name with no free place (R22). -/
theorem QueueManager.applySingerAdd_full {q : QueueManager} {name : List Nat} (src : Source)
    (new : q.placeWhere (fun r => r.any (fun g => g.name == name)) = none)
    (h : q.placeWhere (fun r => r.isNone) = none) :
    q.applySingerAdd src name = q.unchanged (refusedWith .full) := by
  simp [QueueManager.applySingerAdd, new, h]

/-- SINGER-DROP of a place that holds no singer (R23). -/
theorem QueueManager.applySingerDrop_of_none {q : QueueManager} {n : Nat} (src : Source) (h : q.singerAt n = none) :
    q.applySingerDrop src n = q.unchanged (refusedWith .badValue) := by
  simp [QueueManager.applySingerDrop, h]

/-- SINGER-DROP of a singer (R23). -/
theorem QueueManager.applySingerDrop_of_some {q : QueueManager} {n : Nat} {g : Singer} (src : Source)
    (h : q.singerAt n = some g) :
    q.applySingerDrop src n
      = if src = .player ∨ g.owner = src then
          { qm := { q.setSinger n none with queue := q.queue.map (fun e => e.without n) }
            answer := okWith (be1 (q.queue.countP (fun e => e.names n))) }
        else q.unchanged (refusedWith .notYours) := by
  simp [QueueManager.applySingerDrop, h]

/-- Settles O28: which place each of SINGER-ADD's two tests picks, and the two branches of SINGER-DROP. -/
theorem singerEditsOutcome : Obligations.SingerEditsOutcome := by
  unfold Obligations.SingerEditsOutcome
  refine fun q f src => ⟨fun name n h1 h2 => ⟨fun here lower => ?_, fun new free taken => ?_⟩, fun name full => ?_,
    fun n vacant => ?_, fun n g held => ⟨fun other notOwner => ?_, fun mine => ?_⟩⟩
  · obtain ⟨g, at_n, named⟩ := here
    refine QueueManager.applySingerAdd_known src (QueueManager.placeWhere_eq_some h1 h2 ?_ fun m _ hm => ?_)
    · simp [at_n, named]
    · exact any_name_eq_false (lower m hm)
  · refine QueueManager.applySingerAdd_free src (QueueManager.placeWhere_eq_none fun m _ _ => ?_)
      (QueueManager.placeWhere_eq_some h1 h2 ?_ fun m hm hn => ?_)
    · exact any_name_eq_false (new m)
    · simp [free]
    · simpa [Option.isSome_iff_ne_none] using taken m hm hn
  · refine QueueManager.applySingerAdd_full src (QueueManager.placeWhere_eq_none fun m h1 h2 => ?_)
      (QueueManager.placeWhere_eq_none fun m h1 h2 => ?_)
    all_goals obtain ⟨g, at_m, named⟩ := full m h1 h2
    · simpa [at_m] using named
    · simp [at_m]
  · exact QueueManager.applySingerDrop_of_none src vacant
  · exact (QueueManager.applySingerDrop_of_some src held).trans (if_neg (not_or.2 ⟨other, notOwner⟩))
  · exact (QueueManager.applySingerDrop_of_some src held).trans (if_pos mine)

/-! ### CLEAR-QUEUE at its port and at its end (R21) -/

/-- The end of the edit in flight (R28). -/
theorem State.endEdit_of_inFlight {s : State} {item : BacklogItem} {rights : BitVec 4} {threshold : Nat}
    (h : s.qm.inFlight = some ⟨.edit item, rights, threshold⟩) :
    s.endEdit item.edit.command
      = s.finish item.source item.edit.command
          (s.qm.applyEdit ⟨.edit item, rights, threshold⟩ item.source item.edit) := by
  simp [State.endEdit, h]

/-- The end of an edit that changes the queue or the roster (R10). -/
theorem State.finish_of_changed {s : State} {o : Outcome} (src : Source) (c : Command)
    (h : ¬ (o.qm.queue = s.qm.queue ∧ o.qm.roster = s.qm.roster)) :
    s.finish src c o
      = ((((s.withQm o.qm).applyDrop o.drop).queueChanged).answer src c o.answer).arbitrate := by
  simp [State.finish, State.noteChange, h]

/-- The end of an edit that changes neither (R10). -/
theorem State.finish_of_same {s : State} {o : Outcome} (src : Source) (c : Command)
    (h : o.qm.queue = s.qm.queue ∧ o.qm.roster = s.qm.roster) :
    s.finish src c o = (((s.withQm o.qm).applyDrop o.drop).answer src c o.answer).arbitrate := by
  simp [State.finish, State.noteChange, h]

/-- A command its free port may not send (R163). -/
theorem State.command_of_not_allowed {s : State} {src : Source} {c : Command} (hr : s.inReset = false)
    (hf : (s.port src).condition = .free) (ha : c.allowed src = false) (ok : Bool) (owner : State → State) :
    s.command src c ok owner = s.refuse src c.code .notHere := by
  simp [State.command, Port.busy, hr, hf, ha]

/-- CLEAR-QUEUE keeps the CUED and PLAYING entries and counts the others (R21). -/
theorem QueueManager.applyClear_eq (q : QueueManager) {kept : List Entry}
    (h : kept = q.queue.filter (fun e => e.state == .cued || e.state == .playing)) :
    q.applyClear = { qm := { q with queue := kept }, answer := okWith (be1 (q.queue.length - kept.length)) } := by
  have stays : q.queue.filter (fun e => !e.waits) = kept := by
    rw [h]
    exact List.filter_congr fun e _ => e.not_waits_eq
  have count : q.queue.countP Entry.waits = q.queue.length - kept.length := by
    have split := List.length_eq_length_filter_add (l := q.queue) Entry.waits
    rw [stays] at split
    rw [List.countP_eq_length_filter]
    omega
  rw [QueueManager.applyClear, stays, count]

theorem exec_clearQueue (src : Source) (s : State) :
    exec (.clearQueue src) s = .next (s.command src .clearQueue true (State.qmEdit src .clearQueue)) := by
  rfl

theorem exec_clearQueueApplied (s : State) :
    exec .clearQueueApplied s = .next (s.outsideReset (fun t => t.endEdit .clearQueue)) := by
  rfl

/-- The end of the CLEAR-QUEUE in flight (R21, R28). -/
theorem exec_clearQueueApplied_of_inFlight {s : State} {src : Source} {rights : BitVec 4} {threshold : Nat}
    (hr : s.inReset = false) (h : s.qm.inFlight = some ⟨.edit ⟨src, .clearQueue⟩, rights, threshold⟩) :
    exec .clearQueueApplied s = .next (s.finish src .clearQueue s.qm.applyClear) := by
  rw [exec_clearQueueApplied, State.outsideReset_of hr]
  exact congrArg Host.Outcome.next (State.endEdit_of_inFlight h)

/-- Settles O27: what is kept is shorter than the queue exactly where an entry goes, and of the same length only where it
is the queue itself. -/
theorem clearQueueEnds : Obligations.ClearQueueEnds := by
  unfold Obligations.ClearQueueEnds
  refine ⟨fun s src rights threshold kept hr inFlight hkept => ?_, fun s src hr hf panel => ?_⟩
  · rw [exec_clearQueueApplied_of_inFlight hr inFlight, QueueManager.applyClear_eq s.qm hkept]
    refine ⟨fun shorter => ?_, fun same => ?_⟩
    · have changed : kept ≠ s.qm.queue := fun h => absurd (congrArg List.length h) (Nat.ne_of_lt shorter)
      rw [State.finish_of_changed _ _ fun h => changed h.1]
      rfl
    · have all : kept = s.qm.queue := by
        rw [hkept] at same ⊢
        exact List.filter_sublist.eq_of_length same
      rw [all, State.finish_of_same _ _ ⟨rfl, rfl⟩, Nat.sub_self]
      rfl
  · have notAllowed : Command.clearQueue.allowed src = false := by
      cases src with
      | player => exact absurd rfl panel
      | panel1 | panel2 | panel3 => rfl
    rw [exec_clearQueue, State.command_of_not_allowed hr hf notAllowed]

/-! ### ADD (R12 to R16) -/

/-- ADD of a song that waits nowhere, with the queue full (R15). -/
theorem QueueManager.applyAdd_full {q : QueueManager} {p : AddParams} (f : InFlight) (src : Source)
    (new : waitingSong q.queue p.song = none) (full : 40 ≤ q.queue.length) :
    q.applyAdd f src p = q.unchanged (refusedWith .full) := by
  simp [QueueManager.applyAdd, new, QueueManager.enter, Config.queuePlaces, full]

/-- The singers an ADD names are found unknown where the entry it makes has none of them (R16). -/
theorem QueueManager.unknownSinger_freshEntry (q : QueueManager) (f : InFlight) (src : Source) (p : AddParams) :
    (q.unknownSinger p.singer || (p.duet != 0 && q.unknownSinger p.partner))
      = ((p.singer.isSome && (q.freshEntry f src p).singer.isNone)
          || (p.duet != 0 && p.partner.isSome && (q.freshEntry f src p).partner.isNone)) := by
  by_cases solo : p.duet = 0
  · simp [QueueManager.unknownSinger, QueueManager.freshEntry, solo]
  · simp [QueueManager.unknownSinger, QueueManager.freshEntry, solo, Bool.and_assoc]

/-- ADD of a song that waits nowhere, with a place left (R15, R16). -/
theorem QueueManager.applyAdd_new {q : QueueManager} {p : AddParams} (f : InFlight) (src : Source)
    (new : waitingSong q.queue p.song = none) (room : q.queue.length < 40) {e : Entry} (he : q.freshEntry f src p = e)
    {queue : List Entry} (hq : queue = if e.cls = .priority then joinPriorityTail q.queue e else q.queue ++ [e]) :
    q.applyAdd f src p
      = { qm := { q with queue := queue, ticketCounter := nextTicket q.newTicket }
          answer :=
            okWith (be2 e.ticket ++ be1 (positionOf queue e.ticket))
              { demoted := p.wantsPriority != 0 && !rightsHold f.rights .priority
                clamped := clampInt (-6) 6 p.startKey != p.startKey || clampNat 85 115 p.tempo != p.tempo
                noSinger := q.unknownSinger p.singer || (p.duet != 0 && q.unknownSinger p.partner) } } := by
  subst he hq
  unfold QueueManager.applyAdd QueueManager.enter
  rw [new]
  exact if_neg (Nat.not_le.2 room)

/-- Settles O22: the search for a ticket, and the two ways of an ADD whose song waits nowhere. -/
theorem addMakesAnEntry : Obligations.AddMakesAnEntry := by
  unfold Obligations.AddMakesAnEntry
  refine ⟨fun q ⟨hq, hh, _, _, h1, h2⟩ => ?_, fun q f src p e queue new => ⟨fun full => ?_, fun room he hqueue => ?_⟩⟩
  · obtain ⟨k, hk, found, free, before⟩ :=
      freeTicket_spec q.live 999 q.ticketCounter h1 h2 (QueueManager.exists_free_ticket hq hh _)
    have found : q.newTicket = ticketAfter q.ticketCounter k := found
    rw [← found, QueueManager.live_eq_false_iff] at free
    exact ⟨k, hk, found, free.1, free.2, fun j hj => QueueManager.live_iff.1 (before j hj)⟩
  · exact QueueManager.applyAdd_full f src (waitingSong_eq_none_iff.2 new) full
  · have fresh : q.freshEntry f src p = e := by
      rw [he]
      simp [QueueManager.freshEntry, QueueManager.knownSinger, clampInt, clampNat]
    refine (QueueManager.applyAdd_new f src (waitingSong_eq_none_iff.2 new) room fresh hqueue).trans ?_
    rw [QueueManager.unknownSinger_freshEntry q f src p, fresh]
    rfl

/-- The pairs after an ADD of a source (R13). -/
theorem voteFor_eq (rs : List Requester) (src : Source) :
    voteFor rs src
      = if ∃ r ∈ rs, r.source = src then
          rs.map (fun r => if r.source = src then ⟨src, min 15 (r.votes + 1)⟩ else r)
        else rs ++ [⟨src, 1⟩] := by
  have count : ∀ r : Requester,
      (if r.source = src then { r with votes := min Config.maxVotes (r.votes + 1) } else r)
        = if r.source = src then ⟨src, min 15 (r.votes + 1)⟩ else r := by
    intro r
    split
    next h => rw [← h]; rfl
    next => rfl
  simp only [voteFor, List.any_eq_true, beq_iff_eq, count]

/-- The entry an ADD is gathered into, with its vote counted and its empty fields filled (R13). -/
def QueueManager.votedEntry (q : QueueManager) (src : Source) (p : AddParams) (e : Entry) : Entry :=
  { e with
    requesters := voteFor e.requesters src
    title := if e.title.isEmpty then p.title else e.title
    singer := if e.singer.isNone then q.knownSinger p.singer else e.singer }

theorem QueueManager.votedEntry_eq (q : QueueManager) (src : Source) (p : AddParams) (e : Entry) :
    q.votedEntry src p e
      = { e with
          requesters :=
            if ∃ r ∈ e.requesters, r.source = src then
              e.requesters.map (fun r => if r.source = src then ⟨src, min 15 (r.votes + 1)⟩ else r)
            else e.requesters ++ [⟨src, 1⟩]
          title := if e.title = [] then p.title else e.title
          singer :=
            if e.singer = none then p.singer.filter (fun n => (q.singerAt n).isSome) else e.singer } := by
  simp only [QueueManager.votedEntry, voteFor_eq, List.isEmpty_iff, Option.isNone_iff_eq_none, QueueManager.knownSinger]

/-- The singer an ADD names is found unknown where the entry has none and gets none (R16). -/
theorem QueueManager.unknownSinger_votedEntry (q : QueueManager) (src : Source) (p : AddParams) (e : Entry) :
    (e.singer.isNone && q.unknownSinger p.singer)
      = (e.singer.isNone && p.singer.isSome && (q.votedEntry src p e).singer.isNone) := by
  cases h : e.singer with
  | none => simp [QueueManager.votedEntry, QueueManager.unknownSinger, h]
  | some n => rfl

/-- ADD of a song that waits (R13, R14). -/
theorem QueueManager.applyAdd_waiting {q : QueueManager} {p : AddParams} {e : Entry} (f : InFlight) (src : Source)
    (h : waitingSong q.queue p.song = some e) {voted : Entry} (hv : q.votedEntry src p e = voted)
    {raised promoted : Bool} (hr : raised = (p.wantsPriority != 0 && rightsHold f.rights .priority && e.cls == .normal))
    (hp : promoted =
      (f.threshold != 0 && e.cls == .normal && !raised && e.voteTotal < f.threshold && f.threshold ≤ voted.voteTotal))
    {queue : List Entry}
    (hq : queue =
      if raised = true ∨ promoted = true then
        joinPriorityTail (removeTicket q.queue e.ticket) { voted with cls := .priority }
      else updateTicket q.queue e.ticket (fun _ => voted)) :
    q.applyAdd f src p
      = QueueManager.placed { q with queue := queue } e.ticket
          { gathered := true
            promoted := promoted
            demoted := p.wantsPriority != 0 && !(p.wantsPriority != 0 && rightsHold f.rights .priority)
            clamped := votesFull e.requesters src
            noSinger := e.singer.isNone && q.unknownSinger p.singer } := by
  rw [QueueManager.applyAdd, h]
  simp only [← Bool.or_eq_true] at hq
  subst hv hr hp hq
  rfl

/-- Settles O23: an ADD whose song waits is gathered, with the entry, its class and its place written out. -/
theorem addIsGathered : Obligations.AddIsGathered := by
  unfold Obligations.AddIsGathered
  intro q f src p e voted raised promoted queue found hvoted hraised hpromoted hqueue
  have hv : q.votedEntry src p e = voted := (q.votedEntry_eq src p e).trans hvoted.symm
  have demoted : ∀ wants granted : Bool, (wants && !(wants && granted)) = (wants && !granted) := by decide
  refine (QueueManager.applyAdd_waiting f src found hv hraised hpromoted hqueue).trans ?_
  rw [q.unknownSinger_votedEntry src p e, hv, demoted]
  rfl

end Sys2Proof.Machine
end

section
/-! PROOFS. Queue operations in time (chapter 2): what the arbiter chooses, and the ends of TAKE-NEXT and of the stage
notices. First the branches of each operation, one equation per branch, then each statement from them. -/

namespace Sys2Proof.Machine

/-! ### The arbiter (R33, R34) -/

/-- The edits that hit the candidate (R34). -/
theorem Edit.hits_iff {threshold : Nat} {c : Option Entry} {e : Edit} :
    e.hits threshold c = true ↔
      (∃ k : Entry, c = some k ∧
        (e = .withdraw k.ticket ∨ e = .hold k.ticket ∨ e = .raise k.ticket ∨ e = .lower k.ticket))
      ∨ (∃ t : Nat, e = .release t ∨ e = .raise t)
      ∨ ∃ p : AddParams, e = .add p ∧ (p.wantsPriority ≠ 0 ∨ threshold ≠ 0 ∨ c = none) := by
  have named (t : Nat) : c.any (fun k => k.ticket == t) = true ↔ ∃ k, c = some k ∧ t = k.ticket := by
    cases c with
    | none => simp
    | some k => simpa using eq_comm
  cases e with
  | withdraw t | hold t | lower t => simpa [Edit.hits] using named t
  | release t | raise t => simp [Edit.hits]
  | add p => simp [Edit.hits, or_assoc]
  | uncue | clearQueue | singerAdd name | singerDrop n => simp [Edit.hits]

theorem QueueManager.anyHit_iff {q : QueueManager} {threshold ahead : Nat} :
    q.anyHit threshold ahead = true ↔
      ∃ item ∈ q.backlog.take ahead, item.edit.hits threshold (candidate q.queue) = true := by
  simp only [QueueManager.anyHit, List.any_eq_true]

theorem QueueManager.anyHit_eq_false_iff {q : QueueManager} {threshold ahead : Nat} :
    q.anyHit threshold ahead = false ↔
      ∀ item ∈ q.backlog.take ahead, item.edit.hits threshold (candidate q.queue) = false := by
  simp only [QueueManager.anyHit, List.any_eq_false, Bool.not_eq_true]

theorem State.takeOldestEdit_of_nil {s : State} (h : s.qm.backlog = []) :
    s.takeOldestEdit = s.withQm { s.qm with inFlight := none } := by
  simp [State.takeOldestEdit, h]

/-- The oldest edit is taken, and one edit fewer stands ahead of a waiting TAKE-NEXT (R32). -/
theorem State.takeOldestEdit_of_cons {s : State} {item : BacklogItem} {rest : List BacklogItem} {waiting : Option Nat}
    (h : s.qm.backlog = item :: rest) (hw : s.qm.takeNext.map (fun k => k - 1) = waiting) :
    s.takeOldestEdit = (s.withQm { s.qm with backlog := rest, takeNext := waiting }).take (.edit item) := by
  simp [State.takeOldestEdit, h, hw]

/-- A waiting notice goes first (R33). -/
theorem State.arbitrate_of_notice {s : State} {n : Notice} {rest : List Notice} (h : s.qm.notices = n :: rest) :
    s.arbitrate = (s.withQm { s.qm with notices := rest }).take (.notice n) := by
  simp [State.arbitrate, h]

/-- A waiting TAKE-NEXT behind an edit that hits the candidate lets the oldest edit go first (R33). -/
theorem State.arbitrate_of_hit {s : State} {ahead : Nat} (hn : s.qm.notices = []) (ht : s.qm.takeNext = some ahead)
    (hit : s.qm.anyHit s.ps.profile.promote ahead = true) : s.arbitrate = s.takeOldestEdit := by
  simp [State.arbitrate, hn, ht, hit]

/-- A waiting TAKE-NEXT that no edit ahead of it hits overtakes them (R33). -/
theorem State.arbitrate_of_no_hit {s : State} {ahead : Nat} (hn : s.qm.notices = [])
    (ht : s.qm.takeNext = some ahead) (miss : s.qm.anyHit s.ps.profile.promote ahead = false) :
    s.arbitrate = (s.withQm { s.qm with takeNext := none }).take .takeNext := by
  simp [State.arbitrate, hn, ht, miss]

/-- With neither notice nor TAKE-NEXT the oldest edit goes (R33). -/
theorem State.arbitrate_of_no_takeNext {s : State} (hn : s.qm.notices = []) (ht : s.qm.takeNext = none) :
    s.arbitrate = s.takeOldestEdit := by
  simp [State.arbitrate, hn, ht]

/-- The arbiter changes nothing but the QM's record. -/
theorem State.arbitrate_withQm (s : State) : s.arbitrate.withQm s.qm = s := by
  have oldest : s.takeOldestEdit.withQm s.qm = s := by
    cases h : s.qm.backlog with
    | nil => rw [State.takeOldestEdit_of_nil h]; rfl
    | cons item rest => rw [State.takeOldestEdit_of_cons h rfl]; rfl
  cases hn : s.qm.notices with
  | cons n rest => rw [State.arbitrate_of_notice hn]; rfl
  | nil =>
    cases ht : s.qm.takeNext with
    | none => rw [State.arbitrate_of_no_takeNext hn ht, oldest]
    | some ahead =>
      cases hit : s.qm.anyHit s.ps.profile.promote ahead with
      | true => rw [State.arbitrate_of_hit hn ht hit, oldest]
      | false => rw [State.arbitrate_of_no_hit hn ht hit]; rfl

/-- Settles O21: each clause is a branch of the arbiter's choice. -/
theorem hitsDecideTheChoice : Obligations.HitsDecideTheChoice := by
  unfold Obligations.HitsDecideTheChoice
  refine ⟨⟨fun threshold c e => Edit.hits_iff, fun s ahead first rest hn ht hb => ⟨fun hit => ?_, fun miss => ?_⟩⟩,
    fun s => ⟨s.arbitrate_withQm, fun n rest hn => ?_,
      fun hn => ⟨fun ht => ?_, fun ht => ⟨fun hb => ?_, fun item rest hb => ?_⟩⟩⟩⟩
  · have fewer : s.qm.takeNext.map (fun k => k - 1) = some (ahead - 1) := by rw [ht]; rfl
    rw [State.arbitrate_of_hit hn ht (QueueManager.anyHit_iff.2 hit), State.takeOldestEdit_of_cons hb fewer]
    rfl
  · rw [State.arbitrate_of_no_hit hn ht (QueueManager.anyHit_eq_false_iff.2 miss)]
    rfl
  · rw [State.arbitrate_of_notice hn]
    rfl
  · rw [State.arbitrate_of_no_hit hn ht (QueueManager.anyHit_eq_false_iff.2 (by simp))]
    rfl
  · rw [State.arbitrate_of_no_takeNext hn ht, State.takeOldestEdit_of_nil hb]
    rfl
  · have nothing : s.qm.takeNext.map (fun k => k - 1) = s.qm.takeNext := by rw [ht]; rfl
    rw [State.arbitrate_of_no_takeNext hn ht, State.takeOldestEdit_of_cons hb nothing]
    rfl

/-! ### Entries found by state (R3, R33) -/

theorem cuedEntry_eq_none_iff {q : List Entry} : cuedEntry q = none ↔ ∀ e ∈ q, e.state ≠ .cued := by
  simp [cuedEntry]

theorem playingEntry_eq_none_iff {q : List Entry} : playingEntry q = none ↔ ∀ e ∈ q, e.state ≠ .playing := by
  simp [playingEntry]

theorem candidate_eq_none_iff {q : List Entry} : candidate q = none ↔ ∀ e ∈ q, e.state ≠ .waiting := by
  simp [candidate]

theorem mem_of_cuedEntry {q : List Entry} {c : Entry} (h : cuedEntry q = some c) : c ∈ q ∧ c.state = .cued :=
  ⟨List.mem_of_find?_eq_some h, by simpa using List.find?_some h⟩

theorem mem_of_playingEntry {q : List Entry} {e : Entry} (h : playingEntry q = some e) :
    e ∈ q ∧ e.state = .playing :=
  ⟨List.mem_of_find?_eq_some h, by simpa using List.find?_some h⟩

/-! ### The end of TAKE-NEXT (R35) -/

/-- An entry whose ticket no other carries stands, CUED, at the place behind the PLAYING run (R35). -/
theorem positionOf_joinAfterPlaying {q : List Entry} {e : Entry} (h : ∀ k ∈ q, k.ticket ≠ e.ticket) :
    positionOf (joinAfterPlaying q e) e.ticket = (q.takeWhile (fun k => k.state == .playing)).length := by
  have ahead : positionOf (q.takeWhile (fun k => k.state == .playing)) e.ticket
      = (q.takeWhile (fun k => k.state == .playing)).length :=
    List.findIdx_eq_length.2 fun k hk => by simpa using h k (List.takeWhile_subset _ hk)
  unfold positionOf at ahead ⊢
  rw [joinAfterPlaying, List.findIdx_append, ahead, if_neg (Nat.lt_irrefl _), List.findIdx_cons, beq_self_eq_true]
  simp

theorem QueueManager.applyTakeNext_of_cued {q : QueueManager} (h : ∃ e ∈ q.queue, e.state = .cued) :
    q.applyTakeNext = q.unchanged (refusedWith .wrongState) := by
  have found : cuedEntry q.queue ≠ none := fun missing => by
    obtain ⟨e, he, cued⟩ := h
    exact cuedEntry_eq_none_iff.1 missing e he cued
  rw [QueueManager.applyTakeNext, if_pos (Option.isSome_iff_ne_none.2 found)]

theorem QueueManager.applyTakeNext_of_empty {q : QueueManager} (hc : cuedEntry q.queue = none)
    (hw : candidate q.queue = none) : q.applyTakeNext = q.unchanged (refusedWith .empty) := by
  simp [QueueManager.applyTakeNext, hc, hw]

/-- TAKE-NEXT of the candidate, with the position it then has (R35). -/
theorem QueueManager.applyTakeNext_of_candidate {q : QueueManager} {e : Entry} {rest : List Entry}
    (hc : cuedEntry q.queue = none) (he : candidate q.queue = some e) (hrest : removeTicket q.queue e.ticket = rest) :
    q.applyTakeNext
      = { qm := { q with queue := joinAfterPlaying rest { e with state := .cued } }
          answer :=
            okWith (entryPayload (rest.takeWhile (fun k => k.state == .playing)).length { e with state := .cued }) } := by
  have others : ∀ k ∈ rest, k.ticket ≠ ({ e with state := .cued } : Entry).ticket :=
    fun k hk => (mem_removeTicket.1 (hrest ▸ hk)).2
  simp only [QueueManager.applyTakeNext, hc, he, hrest, ← positionOf_joinAfterPlaying others]
  rfl

theorem exec_takeNextApplied (s : State) : exec .takeNextApplied s = .next (s.outsideReset State.endTakeNext) := by
  rfl

/-- The end of the TAKE-NEXT in flight (R28, R35). -/
theorem exec_takeNextApplied_of_inFlight {s : State} {rights : BitVec 4} {threshold : Nat} (hr : s.inReset = false)
    (h : s.qm.inFlight = some ⟨.takeNext, rights, threshold⟩) :
    exec .takeNextApplied s = .next (s.finish .player .takeNext s.qm.applyTakeNext) := by
  rw [exec_takeNextApplied, State.outsideReset_of hr]
  simp [State.endTakeNext, h]

/-- Settles O30: of the three branches only the candidate's changes the queue, which then holds a CUED entry. -/
theorem takeNextEnds : Obligations.TakeNextEnds := by
  unfold Obligations.TakeNextEnds
  refine fun s rights threshold hr inFlight =>
    ⟨fun cued => ?_, fun empty => ?_, fun e rest queue noCued he hrest hqueue => ?_⟩
  · rw [exec_takeNextApplied_of_inFlight hr inFlight, QueueManager.applyTakeNext_of_cued cued,
      State.finish_of_same _ _ ⟨rfl, rfl⟩]
    rfl
  · have noCued := cuedEntry_eq_none_iff.2 fun e he => (empty e he).1
    have noWaiting := candidate_eq_none_iff.2 fun e he => (empty e he).2
    rw [exec_takeNextApplied_of_inFlight hr inFlight, QueueManager.applyTakeNext_of_empty noCued noWaiting,
      State.finish_of_same _ _ ⟨rfl, rfl⟩]
    rfl
  · have hqueue : joinAfterPlaying rest { e with state := .cued } = queue := hqueue.symm
    have taken : ({ e with state := .cued } : Entry) ∈ queue := by
      rw [← hqueue, (joinAfterPlaying_perm _ _).mem_iff]
      exact List.mem_cons_self
    have changed : queue ≠ s.qm.queue := fun h => noCued _ (h ▸ taken) rfl
    rw [exec_takeNextApplied_of_inFlight hr inFlight,
      QueueManager.applyTakeNext_of_candidate (cuedEntry_eq_none_iff.2 noCued) he hrest.symm, hqueue,
      State.finish_of_changed _ _ fun h => changed h.1]
    rfl

/-! ### The end of a notice (R28, R31) -/

theorem QueueManager.noticeInFlight_of {q : QueueManager} {n : Notice} {rights : BitVec 4} {threshold : Nat}
    (h : q.inFlight = some ⟨.notice n, rights, threshold⟩) : q.noticeInFlight = some n := by
  simp [QueueManager.noticeInFlight, h]

/-- The end of a notice that changes the queue (R10, R28). -/
theorem State.finishNotice_of_changed {s : State} {q : QueueManager} {slots : State → State} (c : Confirmation)
    (hslots : ∀ t, (slots t).qm = t.qm) (h : q.queue ≠ s.qm.queue) :
    s.finishNotice q slots c
      = ((slots (s.withQm { q with toStage := q.toStage ++ [c] })).queueChanged).arbitrate := by
  simp [State.finishNotice, State.noteChange, hslots, h]

/-- The end of a notice that leaves the QM's records (R10, R28). -/
theorem State.finishNotice_of_same {s : State} {slots : State → State} (c : Confirmation)
    (hslots : ∀ t, (slots t).qm = t.qm) :
    s.finishNotice s.qm slots c
      = (slots (s.withQm { s.qm with toStage := s.qm.toStage ++ [c] })).arbitrate := by
  simp [State.finishNotice, State.noteChange, hslots]

/-! ### The START notice (R37) -/

theorem exec_startNoticeApplied (s : State) :
    exec .startNoticeApplied s = .next (s.outsideReset State.endStartNotice) := by
  rfl

@[simp] theorem State.playSlot_qm (ticket : Nat) (s : State) : (s.playSlot ticket).qm = s.qm := rfl

/-- A START notice that finds its ticket CUED (R37). -/
theorem State.endStartNotice_of_cued {s : State} {ticket : Nat} {e : Entry}
    (hn : s.qm.noticeInFlight = some (.start ticket)) (hc : cuedEntry s.qm.queue = some e) (ht : e.ticket = ticket) :
    s.endStartNotice
      = s.finishNotice
          { s.qm with queue := updateTicket s.qm.queue ticket (fun _ => { e with state := .playing }) }
          (State.playSlot ticket) (.start e.startKey e.tempo e.duet) := by
  simp [State.endStartNotice, hn, hc, ht]

/-- A START notice whose ticket left the queue (R37). -/
theorem State.endStartNotice_of_lost {s : State} {ticket : Nat} (hn : s.qm.noticeInFlight = some (.start ticket))
    (lost : ∀ e ∈ s.qm.queue, e.ticket ≠ ticket) : s.endStartNotice = s.finishNotice s.qm id .cueLost := by
  cases hc : cuedEntry s.qm.queue with
  | none => simp [State.endStartNotice, hn, hc]
  | some e => simp [State.endStartNotice, hn, hc, lost e (mem_of_cuedEntry hc).1]

/-- The CUED entry made PLAYING in its place changes the queue. -/
theorem updateTicket_playing_ne {q : List Entry} {e : Entry} (h : cuedEntry q = some e) :
    updateTicket q e.ticket (fun _ => { e with state := .playing }) ≠ q := fun same => by
  obtain ⟨he, cued⟩ := mem_of_cuedEntry h
  have fixed := List.map_inj_left.1 (same.trans (List.map_id q).symm) e he
  have playing : e.state = .playing := by
    simpa using (congrArg Entry.state fixed).symm
  exact EntryState.noConfusion (cued.symm.trans playing)

/-! ### The RETIRE notice (R38) -/

theorem exec_retireNoticeApplied (s : State) :
    exec .retireNoticeApplied s = .next (s.outsideReset State.endRetireNotice) := by
  rfl

theorem State.endRetireNotice_of_inFlight {s : State} {kind : EndKind} {time : Nat} {lanes : PerLane Finals}
    (hn : s.qm.noticeInFlight = some (.retire kind time lanes)) :
    s.endRetireNotice
      = s.finishNotice (s.qm.retire kind time lanes) (fun t => t.dropSlots Slot.isPlaying) .retire := by
  simp [State.endRetireNotice, hn]

theorem QueueManager.retire_of_none {q : QueueManager} (kind : EndKind) (time : Nat) (lanes : PerLane Finals)
    (h : playingEntry q.queue = none) : q.retire kind time lanes = q := by
  simp [QueueManager.retire, h]

/-- The PLAYING entry leaves the queue and is filed (R7, R38). -/
theorem QueueManager.retire_of_some {q : QueueManager} {e : Entry} (kind : EndKind) (time : Nat)
    (lanes : PerLane Finals) (h : playingEntry q.queue = some e) :
    q.retire kind time lanes
      = { q with
          queue := removeTicket q.queue e.ticket
          history := fileRecord q.history (q.recordOf e kind time lanes) } := by
  simp [QueueManager.retire, h]

/-- An entry whose ticket leaves the queue is gone from it. -/
theorem removeTicket_ne {q : List Entry} {e : Entry} (h : e ∈ q) : removeTicket q e.ticket ≠ q := fun same =>
  (mem_removeTicket.1 (same.symm ▸ h)).2 rfl

/-! ### The RESET notice (R39) -/

theorem exec_resetNoticeApplied (s : State) :
    exec .resetNoticeApplied s = .next (s.outsideReset State.endResetNotice) := by
  rfl

theorem State.endResetNotice_of_inFlight {s : State} {time : Nat}
    (hn : s.qm.noticeInFlight = some (.reset time)) :
    s.endResetNotice = s.finishNotice (s.qm.abandon time) (fun t => t.dropSlots (fun _ => true)) .reset := by
  simp [State.endResetNotice, hn]

/-- The queue after a CUED entry returns holds the others, and under its ticket an entry that waits (R9). -/
theorem mem_returnCued {q : List Entry} {c k : Entry} (h : k ∈ returnCued q c) :
    (k ∈ q ∧ k.ticket ≠ c.ticket) ∨ (k.ticket = c.ticket ∧ k.waits = true) := by
  unfold returnCued at h
  cases hw : waitingSong (removeTicket q c.ticket) c.song with
  | none =>
    simp only [hw, (joinClassHead_perm _ _).mem_iff, List.mem_cons] at h
    obtain rfl | h := h
    · exact .inr ⟨rfl, rfl⟩
    · exact .inl (mem_removeTicket.1 h)
  | some a =>
    simp only [hw, (joinClassHead_perm _ _).mem_iff, List.mem_cons] at h
    obtain rfl | h := h
    · have waits : a.waits = true := by
        have found := List.find?_some hw
        exact (Bool.and_eq_true_iff.1 found).1
      exact .inr ⟨rfl, waits⟩
    · exact .inl (mem_removeTicket.1 (mem_removeTicket.1 h).1)

/-- A RESET notice with no CUED entry left by the PLAYING entry's filing (R39). -/
theorem QueueManager.abandon_of_none {q q' : QueueManager} {time : Nat}
    (hq : q.retire .aborted time ⟨Finals.abandoned, Finals.abandoned⟩ = q') (h : cuedEntry q'.queue = none) :
    q.abandon time = q' := by
  simp [QueueManager.abandon, hq, h]

/-- A RESET notice with a CUED entry left: it returns (R39). -/
theorem QueueManager.abandon_of_some {q q' : QueueManager} {time : Nat} {c : Entry}
    (hq : q.retire .aborted time ⟨Finals.abandoned, Finals.abandoned⟩ = q') (h : cuedEntry q'.queue = some c) :
    q.abandon time = { q' with queue := returnCued q'.queue c } := by
  simp [QueueManager.abandon, hq, h]

/-- A RESET notice beside neither a PLAYING nor a CUED entry leaves the records (R39). -/
theorem QueueManager.abandon_of_no_stage {q : QueueManager} (time : Nat) (hp : playingEntry q.queue = none)
    (hc : cuedEntry q.queue = none) : q.abandon time = q :=
  QueueManager.abandon_of_none (QueueManager.retire_of_none _ _ _ hp) hc

/-- A ticket that a RESET notice leaves in the queue was there after the PLAYING entry's filing (R39). -/
theorem QueueManager.abandon_ticket_subset {q : QueueManager} {time : Nat} {k : Entry}
    (h : k ∈ (q.abandon time).queue) :
    ∃ e ∈ (q.retire .aborted time ⟨Finals.abandoned, Finals.abandoned⟩).queue, e.ticket = k.ticket := by
  cases hc : cuedEntry (q.retire .aborted time ⟨Finals.abandoned, Finals.abandoned⟩).queue with
  | none => exact ⟨k, QueueManager.abandon_of_none rfl hc ▸ h, rfl⟩
  | some c =>
    rw [QueueManager.abandon_of_some rfl hc] at h
    obtain ⟨hk, -⟩ | ⟨ht, -⟩ := mem_returnCued h
    · exact ⟨k, hk, rfl⟩
    · exact ⟨c, (mem_of_cuedEntry hc).1, ht.symm⟩

/-- A RESET notice beside a PLAYING or CUED entry changes the queue: the one leaves with its ticket, and the other
waits under its own (R39). -/
theorem QueueManager.abandon_queue_ne {q : QueueManager} (time : Nat)
    (h : ∃ k ∈ q.queue, k.state = .playing ∨ k.state = .cued) : (q.abandon time).queue ≠ q.queue := fun same => by
  cases hp : playingEntry q.queue with
  | some e =>
    obtain ⟨k, hk, ht⟩ := QueueManager.abandon_ticket_subset (same.symm ▸ (mem_of_playingEntry hp).1)
    rw [QueueManager.retire_of_some _ _ _ hp] at hk
    exact (mem_removeTicket.1 hk).2 ht
  | none =>
    cases hc : cuedEntry q.queue with
    | none =>
      obtain ⟨k, hk, playing | cued⟩ := h
      · exact playingEntry_eq_none_iff.1 hp k hk playing
      · exact cuedEntry_eq_none_iff.1 hc k hk cued
    | some c =>
      obtain ⟨hmem, cued⟩ := mem_of_cuedEntry hc
      rw [QueueManager.abandon_of_some (QueueManager.retire_of_none _ _ _ hp) hc] at same
      obtain ⟨-, other⟩ | ⟨-, waits⟩ := mem_returnCued (same.symm ▸ hmem)
      · exact other rfl
      · simp [Entry.waits, cued] at waits

/-- The queue and the history a RESET notice leaves, from those after each of its two parts (R39). -/
theorem QueueManager.abandon_eq {q : QueueManager} {time : Nat} {left queue : List Entry}
    {history : List HistoryRecord}
    (filed : (playingEntry q.queue = none ∧ left = q.queue ∧ history = q.history)
      ∨ ∃ e, playingEntry q.queue = some e ∧ left = removeTicket q.queue e.ticket
          ∧ history
            = fileRecord q.history (q.recordOf e .aborted time ⟨Finals.abandoned, Finals.abandoned⟩))
    (returned : (cuedEntry left = none ∧ queue = left)
      ∨ ∃ c, cuedEntry left = some c ∧ queue = returnCued left c) :
    q.abandon time = { q with queue := queue, history := history } := by
  have retired : q.retire .aborted time ⟨Finals.abandoned, Finals.abandoned⟩
      = { q with queue := left, history := history } := by
    obtain ⟨hp, rfl, rfl⟩ | ⟨e, hp, rfl, rfl⟩ := filed
    · exact QueueManager.retire_of_none _ _ _ hp
    · exact QueueManager.retire_of_some _ _ _ hp
  obtain ⟨hc, rfl⟩ | ⟨c, hc, rfl⟩ := returned
  · exact QueueManager.abandon_of_none retired hc
  · exact QueueManager.abandon_of_some retired hc

/-! ### The three notices together -/

/-- Settles O31: what each notice leaves, and whether it changes the queue. -/
theorem noticesEnd : Obligations.NoticesEnd := by
  unfold Obligations.NoticesEnd
  refine ⟨fun s ticket rights threshold hr inFlight => ⟨fun e cued same => ?_, fun lost => ?_⟩,
    fun s rights threshold hr => ⟨fun kind time lanes e inFlight playing => ?_,
      fun time left queue history inFlight filed returned => ⟨fun noStage => ?_, fun stage => ?_⟩⟩⟩
  · subst same
    rw [exec_startNoticeApplied, State.outsideReset_of hr,
      State.endStartNotice_of_cued (QueueManager.noticeInFlight_of inFlight) cued rfl,
      State.finishNotice_of_changed _ (State.playSlot_qm e.ticket) (updateTicket_playing_ne cued)]
    rfl
  · rw [exec_startNoticeApplied, State.outsideReset_of hr,
      State.endStartNotice_of_lost (QueueManager.noticeInFlight_of inFlight) lost,
      State.finishNotice_of_same (slots := id) _ (fun _ => rfl)]
    rfl
  · rw [exec_retireNoticeApplied, State.outsideReset_of hr,
      State.endRetireNotice_of_inFlight (QueueManager.noticeInFlight_of inFlight),
      QueueManager.retire_of_some _ _ _ playing,
      State.finishNotice_of_changed _ (fun t => t.dropSlots_qm _) (removeTicket_ne (mem_of_playingEntry playing).1)]
    rfl
  · have unchanged : s.qm.abandon time = s.qm :=
      QueueManager.abandon_of_no_stage time (playingEntry_eq_none_iff.2 fun k hk => (noStage k hk).1)
        (cuedEntry_eq_none_iff.2 fun k hk => (noStage k hk).2)
    rw [exec_resetNoticeApplied, State.outsideReset_of hr,
      State.endResetNotice_of_inFlight (QueueManager.noticeInFlight_of inFlight), unchanged,
      State.finishNotice_of_same _ (fun t => t.dropSlots_qm _)]
  · have result : s.qm.abandon time = { s.qm with queue := queue, history := history } := by
      rw [← playingEntry_eq_none_iff] at filed
      rw [← cuedEntry_eq_none_iff] at returned
      exact QueueManager.abandon_eq filed returned
    have changed := QueueManager.abandon_queue_ne time stage
    rw [exec_resetNoticeApplied, State.outsideReset_of hr,
      State.endResetNotice_of_inFlight (QueueManager.noticeInFlight_of inFlight),
      State.finishNotice_of_changed _ (fun t => t.dropSlots_qm _) changed, result]
    rfl

end Sys2Proof.Machine
end

section
/-! PROOFS. The song loader's commands (chapter 3): LOAD-OPEN, LOAD-CLOSE and LOAD-ABORT. First what each of their tests
asks, then one equation per branch of a command, then each statement from them. -/

namespace Sys2Proof.Machine

/-! ### What the commands test (R46, R52, R53) -/

theorem QueueManager.cuedIs_eq_true_iff {q : QueueManager} {ticket : Nat} :
    q.cuedIs ticket = true ↔ ∃ e, cuedEntry q.queue = some e ∧ e.ticket = ticket := by
  simp [QueueManager.cuedIs, Option.any_eq_true]

theorem QueueManager.cuedIs_eq_false_iff {q : QueueManager} {ticket : Nat} :
    q.cuedIs ticket = false ↔ ∀ e, cuedEntry q.queue = some e → e.ticket ≠ ticket := by
  simp [QueueManager.cuedIs, Option.any_eq_false]

/-- A load goes to the slot beside the PLAYING one, else to the slot that carries its ticket, else to A. -/
theorem SongLoader.target_eq (sl : SongLoader) (ticket : Nat) :
    sl.target ticket
      = if sl.slotA.isPlaying then .b
        else if sl.slotB.isPlaying then .a
        else if sl.slotA.ticket = some ticket then .a
        else if sl.slotB.ticket = some ticket then .b
        else .a := by
  unfold SongLoader.target SongLoader.carrying
  by_cases inA : sl.slotA.ticket = some ticket
  · simp [inA]
  · by_cases inB : sl.slotB.ticket = some ticket <;> simp [inA, inB]

theorem Slot.load_eq_none_iff {c : Slot} : c.load = none ↔ ∀ l, c ≠ .loading l := by
  cases c <;> simp [Slot.load]

theorem SongLoader.loadingSlot_eq_none_iff {sl : SongLoader} :
    sl.loadingSlot = none ↔ ∀ l, sl.slotA ≠ .loading l ∧ sl.slotB ≠ .loading l := by
  have split : sl.loadingSlot = none ↔ sl.slotA.load = none ∧ sl.slotB.load = none := by
    unfold SongLoader.loadingSlot
    cases sl.slotA.load <;> cases sl.slotB.load <;> simp
  rw [split, Slot.load_eq_none_iff, Slot.load_eq_none_iff, forall_and]

/-! ### LOAD-OPEN (R52) -/

/-- LOAD-OPEN at a port that takes it is handed to the SL. -/
theorem exec_loadOpen_of_accepts {src : Source} {s : State} (h : s.accepts src .loadOpen) (ticket count order : Nat) :
    exec (.loadOpen src ticket count order) s
      = .next ((s.route src .loadOpen).slLoadOpen src ticket count order) :=
  congrArg Host.Outcome.next (State.command_of_accepts h (State.slLoadOpen src ticket count order))

/-- LOAD-OPEN with a count or a byte order out of range. -/
theorem State.slLoadOpen_of_badValue {count order : Nat} (src : Source) (ticket : Nat) (s : State)
    (h : 6144 < count ∨ 1 < order) :
    s.slLoadOpen src ticket count order = s.answer src .loadOpen (refusedWith .badValue) :=
  if_pos h

/-- LOAD-OPEN for a ticket that is not the CUED one. -/
theorem State.slLoadOpen_of_not_cued {ticket count order : Nat} {s : State} (src : Source)
    (inRange : ¬ (6144 < count ∨ 1 < order)) (h : s.qm.cuedIs ticket = false) :
    s.slLoadOpen src ticket count order = s.answer src .loadOpen (refusedWith .noTicket) := by
  simp [State.slLoadOpen, Config.slotPlaces, inRange, h]

/-- LOAD-OPEN for the CUED ticket. -/
theorem State.slLoadOpen_of_cued {ticket count order : Nat} {s : State} (src : Source)
    (inRange : ¬ (6144 < count ∨ 1 < order)) (h : s.qm.cuedIs ticket = true) :
    s.slLoadOpen src ticket count order
      = (s.withSl (s.sl.set (s.sl.target ticket)
            (.loading (Load.opened ticket count (if order = 0 then .little else .big))))).answer src .loadOpen
          (okWith (encSlotName (s.sl.target ticket) ++ be2 ticket)) := by
  simp [State.slLoadOpen, Config.slotPlaces, inRange, h]

/-- Settles O33: each clause is a branch of LOAD-OPEN at the SL. -/
theorem loadOpens : Obligations.LoadOpens := by
  unfold Obligations.LoadOpens
  refine fun src ticket count order s taken => ⟨fun outOfRange => ?_, fun hcount horder => ?_⟩
  · rw [exec_loadOpen_of_accepts taken, State.slLoadOpen_of_badValue src ticket _ outOfRange]
    rfl
  have inRange : ¬ (6144 < count ∨ 1 < order) := by omega
  refine ⟨fun other => ?_, fun e n cued same hn => ?_⟩
  · have notCued : (s.route src .loadOpen).qm.cuedIs ticket = false := QueueManager.cuedIs_eq_false_iff.2 other
    rw [exec_loadOpen_of_accepts taken, State.slLoadOpen_of_not_cued src inRange notCued]
    rfl
  · have isCued : (s.route src .loadOpen).qm.cuedIs ticket = true :=
      QueueManager.cuedIs_eq_true_iff.2 ⟨e, cued, same⟩
    rw [exec_loadOpen_of_accepts taken, State.slLoadOpen_of_cued src inRange isCued, State.route_sl,
      hn.trans (s.sl.target_eq ticket).symm]
    rfl

/-! ### LOAD-CLOSE (R58) -/

/-- LOAD-CLOSE at a port that takes it is handed to the SL. -/
theorem exec_loadClose_of_accepts {src : Source} {s : State} (h : s.accepts src .loadClose) :
    exec (.loadClose src) s = .next ((s.route src .loadClose).slLoadClose src) :=
  congrArg Host.Outcome.next (State.command_of_accepts h (State.slLoadClose src))

/-- LOAD-CLOSE with no slot LOADING. -/
theorem State.slLoadClose_of_none {s : State} (src : Source) (h : s.sl.loadingSlot = none) :
    s.slLoadClose src = s.answer src .loadClose (refusedWith .noLoad) := by
  simp [State.slLoadClose, h]

/-- LOAD-CLOSE of a load whose last record is END. -/
theorem State.slLoadClose_of_ended {s : State} {n : SlotName} {l : Load} (src : Source)
    (h : s.sl.loadingSlot = some (n, l)) (ended : l.tracking.ended = true) :
    s.slLoadClose src
      = ((s.withSl (s.sl.set n (.loaded ⟨l.ticket, l.records, l.index, l.clamps⟩))).raisePlayer .loadDone).answer src
          .loadClose (okWith (encSlotName n ++ be1 2 ++ [0xFF#8] ++ be2 l.records.length ++ be2 l.clamps)) := by
  have complete : l.closing = .complete := if_pos ended
  simp only [State.slLoadClose, h, complete]
  rfl

/-- How LOAD-CLOSE ends a load whose last record is not END: SHORT where it had a count, NO-END where it had none. -/
theorem Load.closing_of_not_ended {l : Load} (h : l.tracking.ended = false) :
    l.closing = .failed (if l.remaining = none then .noEnd else .short) := by
  cases count : l.remaining <;> simp [Load.closing, h, count]

/-- LOAD-CLOSE of a load whose last record is not END. -/
theorem State.slLoadClose_of_not_ended {s : State} {n : SlotName} {l : Load} {why : FailReason} (src : Source)
    (h : s.sl.loadingSlot = some (n, l)) (notEnded : l.tracking.ended = false)
    (hwhy : why = if l.remaining = none then .noEnd else .short) :
    s.slLoadClose src
      = ((s.withSl (s.sl.set n (.failed ⟨l.ticket, l.records, l.clamps, why⟩))).raisePlayer .loadDone).answer src
          .loadClose (okWith (encSlotName n ++ be1 3 ++ be1 why.number ++ be2 l.records.length ++ be2 l.clamps)) := by
  have failed : l.closing = .failed why := hwhy ▸ Load.closing_of_not_ended notEnded
  simp only [State.slLoadClose, h, failed]
  rfl

/-! ### LOAD-ABORT (R59) -/

/-- LOAD-ABORT at a port that takes it is handed to the SL. -/
theorem exec_loadAbort_of_accepts {src : Source} {s : State} (h : s.accepts src .loadAbort) :
    exec (.loadAbort src) s = .next ((s.route src .loadAbort).slLoadAbort src) :=
  congrArg Host.Outcome.next (State.command_of_accepts h (State.slLoadAbort src))

theorem State.abortTarget_eq_some_iff {s : State} {n : SlotName} :
    s.abortTarget = some n ↔
      (∃ e, cuedEntry s.qm.queue = some e ∧ s.sl.carrying e.ticket = some n) ∧ (s.sl.get n).isPlaying = false := by
  simp [State.abortTarget, Option.filter_eq_some_iff, Option.bind_eq_some_iff]

theorem State.abortTarget_eq_none_iff {s : State} :
    s.abortTarget = none ↔
      ∀ e, cuedEntry s.qm.queue = some e → ∀ n, s.sl.carrying e.ticket = some n → (s.sl.get n).isPlaying = true := by
  simp only [Option.eq_none_iff_forall_ne_some, ne_eq, State.abortTarget_eq_some_iff, not_and, Bool.not_eq_false,
    forall_exists_index, and_imp]
  exact forall_comm.trans (forall_congr' fun e => forall_comm)

/-- LOAD-ABORT with no slot to drop. -/
theorem State.slLoadAbort_of_none {s : State} (src : Source) (h : s.abortTarget = none) :
    s.slLoadAbort src = s.answer src .loadAbort (refusedWith .noLoad) := by
  simp [State.slLoadAbort, h]

/-- LOAD-ABORT of the slot it drops. -/
theorem State.slLoadAbort_of_some {s : State} {n : SlotName} (src : Source) (h : s.abortTarget = some n) :
    s.slLoadAbort src
      = (s.withSl (s.sl.set n .empty)).answer src .loadAbort (okWith (encSlotName n)) := by
  simp [State.slLoadAbort, h]

/-- Settles O35: each clause is a branch of LOAD-CLOSE or of LOAD-ABORT at the SL. -/
theorem loadClosesAndAborts : Obligations.LoadClosesAndAborts := by
  unfold Obligations.LoadClosesAndAborts
  refine fun src s =>
    ⟨fun taken => ⟨fun noLoad => ?_, fun n l loading => ⟨fun ended => ?_, fun why hwhy notEnded => ?_⟩⟩,
    fun taken => ⟨fun noSlot => ?_, fun e n cued carries notPlaying => ?_⟩⟩
  · have noneLoading : (s.route src .loadClose).sl.loadingSlot = none := SongLoader.loadingSlot_eq_none_iff.2 noLoad
    rw [exec_loadClose_of_accepts taken, State.slLoadClose_of_none src noneLoading]
    rfl
  · rw [exec_loadClose_of_accepts taken, State.slLoadClose_of_ended (s := s.route src .loadClose) src loading ended]
    rfl
  · rw [exec_loadClose_of_accepts taken,
      State.slLoadClose_of_not_ended (s := s.route src .loadClose) src loading notEnded hwhy]
    rfl
  · have noneToDrop : (s.route src .loadAbort).abortTarget = none := State.abortTarget_eq_none_iff.2 noSlot
    rw [exec_loadAbort_of_accepts taken, State.slLoadAbort_of_none src noneToDrop]
    rfl
  · have drops : (s.route src .loadAbort).abortTarget = some n :=
      State.abortTarget_eq_some_iff.2 ⟨⟨e, cued, carries⟩, notPlaying⟩
    rw [exec_loadAbort_of_accepts taken, State.slLoadAbort_of_some src drops]
    rfl

end Sys2Proof.Machine
end

section
/-! PROOFS. The stage (chapter 4): the two answers to a pending START. First the SC's taking of a confirmation and the
parts of the blocks in the song's beginning, then one equation per answer, then the statement from them. -/

namespace Sys2Proof.Machine

/-! ### The confirmation taken, and the blocks' parts in it (R68, R69) -/

theorem State.takeConfirmation_of_cons {s : State} {c : Confirmation} {rest : List Confirmation}
    (h : s.qm.toStage = c :: rest) : s.takeConfirmation = s.withQm { s.qm with toStage := rest } := by
  simp [State.takeConfirmation, h]

theorem LyricRenderer.songStart_eq (r : LyricRenderer) (i : LyricInputs) :
    r.songStart i = LyricRenderer.rebuild { r with mode := .rows, card := none, overflow := 0, dropped := 0 } i := by
  rfl

theorem ReturnState.stage_eq_ite (back : ReturnState) :
    back.stage = if back = .ready then .ready else .result := by
  cases back <;> rfl

/-- The LR begins the song from the state `u` in which the SC and the SU have begun it (R68, R93). -/
theorem State.songStart_of_begun {s u : State} {p : PendingStart} {key : Int} {tempo : Nat} {duet : Bool}
    (begun : u =
      (s.withSc
        { s.sc with
          stage := .playing
          songTime := p.offset
          remainder := 0
          key := key
          tempo := tempo
          seekCount := 0
          hold := .stopped
          pendingStart := none }).withSu (s.su.songStart duet)) :
    s.songStart p key tempo duet
      = u.withLr
          (LyricRenderer.rebuild { s.lr with mode := .rows, card := none, overflow := 0, dropped := 0 }
            (u.lyricInputs p.offset)) := by
  have lyrics : u.lr = s.lr := by simp [begun]
  rw [← lyrics, ← LyricRenderer.songStart_eq, begun]
  rfl

/-! ### The START confirmation (R68) -/

theorem exec_startConfirmation (s : State) :
    exec .startConfirmation s = .next (s.outsideReset State.startConfirmed) := by
  rfl

/-- A START confirmation that meets a pending start begins its song (R68). -/
theorem State.startConfirmed_of_start {s : State} {p : PendingStart} {key : Int} {tempo : Nat} {duet : Bool}
    {rest : List Confirmation} (pending : s.sc.pendingStart = some p)
    (confirmed : s.qm.toStage = .start key tempo duet :: rest) :
    s.startConfirmed
      = (((s.withQm { s.qm with toStage := rest }).songStart p key tempo duet).raiseAll .songStarted).answer .player
          .start (okWith (be2 p.ticket ++ encTime p.offset ++ encSigned key ++ be1 tempo)) := by
  simp [State.startConfirmed, pending, confirmed, State.takeConfirmation_of_cons confirmed]

/-! ### The CUE-LOST answer (R69) -/

theorem exec_cueLostAnswer (s : State) :
    exec .cueLostAnswer s = .next (s.outsideReset State.cueLostAnswered) := by
  rfl

/-- A CUE-LOST answer that meets a pending start puts the stage in its return state (R69). -/
theorem State.cueLostAnswered_of_cueLost {s : State} {p : PendingStart} {rest : List Confirmation}
    (pending : s.sc.pendingStart = some p) (lost : s.qm.toStage = .cueLost :: rest) :
    s.cueLostAnswered
      = ((s.withQm { s.qm with toStage := rest }).withSc
          { s.sc with
            stage := p.back.stage
            endTime := none
            hold := s.sc.hold.resume
            pendingStart := none }).answer .player .start (refusedWith .cueLost) := by
  simp [State.cueLostAnswered, pending, lost, State.takeConfirmation_of_cons lost]

/-! ### The two answers together -/

/-- Settles O38: each answer meets the pending start, and the song begins block by block. -/
theorem startIsConfirmedOrLost : Obligations.StartIsConfirmedOrLost := by
  unfold Obligations.StartIsConfirmedOrLost
  refine fun s u rest ticket offset back hr pending =>
    ⟨fun key tempo duet confirmed begun => ?_, fun lost => ?_⟩
  · have song : (s.withQm { s.qm with toStage := rest }).songStart ⟨ticket, offset, back⟩ key tempo duet
        = u.withLr
            (LyricRenderer.rebuild { s.lr with mode := .rows, card := none, overflow := 0, dropped := 0 }
              (u.lyricInputs offset)) :=
      State.songStart_of_begun begun
    rw [exec_startConfirmation, State.outsideReset_of hr, State.startConfirmed_of_start pending confirmed, song]
    rfl
  · rw [exec_cueLostAnswer, State.outsideReset_of hr, State.cueLostAnswered_of_cueLost pending lost,
      ReturnState.stage_eq_ite]
    rfl

end Sys2Proof.Machine
end

section
/-! PROOFS. The PI's own commands (chapters 9 and 10): RIGHTS, EVENTS, MASK, and the attention line. First which numbers
name a panel port and which bytes are rights masks, then one equation per branch of a command, then the statement from
them. -/

namespace Sys2Proof.Machine

/-! ### Port numbers and rights masks (R166) -/

/-- The number of a panel's source names its port. -/
theorem panelPort_sourceNumber (panel : Panel) : panelPort (sourceNumber panel.source) = some panel.source := by
  cases panel <;> rfl

theorem panelPort_eq_none {n : Nat} (h : n = 0 ∨ 3 < n) : panelPort n = none := by
  match n, h with
  | 0, _ => rfl
  | _ + 4, _ => rfl

/-- A byte has no bit above the four rights exactly where its value is below 16. -/
theorem and_F0_eq_zero_iff (m : Byte) : m &&& 0xF0#8 = 0#8 ↔ m.toNat < 16 := by
  revert m
  decide

/-- A rights mask goes back in the reply as the byte that came. -/
theorem encRights_setWidth {m : Byte} (h : m.toNat < 16) : encRights (m.setWidth 4) = [m] := by
  have low : (m.setWidth 4).toNat = m.toNat := by rw [BitVec.toNat_setWidth, Nat.mod_eq_of_lt h]
  rw [encRights, low, be1, BitVec.ofNat_toNat, BitVec.setWidth_eq]

/-! ### RIGHTS (R166) -/

/-- RIGHTS at a port that takes it is handed to the PI. -/
theorem exec_rights_of_accepts {src : Source} {s : State} (h : s.accepts src .rights) (n : Nat) (m : Option Byte) :
    exec (.rights src n m) s = .next ((s.route src .rights).piRights src n m) :=
  congrArg Host.Outcome.next (State.command_of_accepts h (State.piRights src n m))

/-- RIGHTS for a number that names no panel port. -/
theorem State.piRights_of_no_panel {n : Nat} (src : Source) (m : Option Byte) (s : State) (h : n = 0 ∨ 3 < n) :
    s.piRights src n m = s.answer src .rights (refusedWith .badValue) := by
  simp [State.piRights, panelPort_eq_none h]

/-- RIGHTS without a mask reads the panel port's. -/
theorem State.piRights_read (src : Source) (panel : Panel) (s : State) :
    s.piRights src (sourceNumber panel.source) none
      = s.answer src .rights
          (okWith (be1 (sourceNumber panel.source) ++ be1 (s.port panel.source).rights.toNat)) := by
  simp [State.piRights, panelPort_sourceNumber, encRights]

/-- RIGHTS with a bit above the four rights. -/
theorem State.piRights_of_badValue {m : Byte} (src : Source) (panel : Panel) (s : State) (h : 16 ≤ m.toNat) :
    s.piRights src (sourceNumber panel.source) (some m) = s.answer src .rights (refusedWith .badValue) := by
  have high : ¬ m &&& 0xF0#8 = 0#8 := fun low => Nat.not_lt.2 h ((and_F0_eq_zero_iff m).1 low)
  simp [State.piRights, panelPort_sourceNumber, high]

/-- RIGHTS with a mask of the four rights replaces the panel port's. -/
theorem State.piRights_set {m : Byte} (src : Source) (panel : Panel) (s : State) (h : m.toNat < 16) :
    s.piRights src (sourceNumber panel.source) (some m)
      = (s.modifyPort panel.source (fun p => { p with rights := BitVec.ofNat 4 m.toNat })).answer src .rights
          (okWith (be1 (sourceNumber panel.source) ++ [m])) := by
  have low : m &&& 0xF0#8 = 0#8 := (and_F0_eq_zero_iff m).2 h
  simp [State.piRights, panelPort_sourceNumber, low, encRights_setWidth h]

/-! ### EVENTS and MASK (R174, R175) -/

/-- EVENTS at a port that takes it is handed to the PI. -/
theorem exec_events_of_accepts {src : Source} {s : State} (h : s.accepts src .events) :
    exec (.events src) s = .next ((s.route src .events).piEvents src) :=
  congrArg Host.Outcome.next (State.command_of_accepts h (State.piEvents src))

/-- MASK at a port that takes it is handed to the PI. -/
theorem exec_mask_of_accepts {src : Source} {s : State} (h : s.accepts src .mask) (m : BitVec 16) :
    exec (.mask src m) s = .next ((s.route src .mask).piMask src m) :=
  congrArg Host.Outcome.next (State.command_of_accepts h (State.piMask src m))

/-- Routing a command leaves the event set that EVENTS reads and clears. -/
theorem State.piEvents_route (src : Source) (c : Command) (s : State) :
    (s.route src c).piEvents src
      = ((s.route src c).modifyPort src (fun p => { p with events := 0#12 })).answer src .events
          (okWith (be2 (s.port src).events.toNat)) := by
  rw [State.piEvents, State.port_route_same, encEvents]

/-! ### The attention line (R173) -/

theorem State.attention_eq_true_iff (s : State) (src : Source) :
    s.attention src = true ↔ s.inReset = false ∧ (s.port src).events &&& (s.port src).mask ≠ 0#12 := by
  simp [State.attention, Port.attention]

/-! ### The settings of a port together -/

/-- Settles O58: each clause is a branch of its command at the PI, and the line is read off its definition. -/
theorem portSettings : Obligations.PortSettings := by
  unfold Obligations.PortSettings
  refine fun src s => ⟨fun taken => ⟨fun n m noPanel => ?_, fun panel n hn => ?_⟩, fun taken => ?_,
    fun taken m => ?_, s.attention_eq_true_iff src⟩
  · rw [exec_rights_of_accepts taken, State.piRights_of_no_panel src m _ noPanel]
    rfl
  · subst hn
    refine ⟨?_, fun m => ⟨fun high => ?_, fun low => ?_⟩⟩
    · rw [exec_rights_of_accepts taken, State.piRights_read, State.rights_route]
      rfl
    · rw [exec_rights_of_accepts taken, State.piRights_of_badValue src panel _ high]
      rfl
    · rw [exec_rights_of_accepts taken, State.piRights_set src panel _ low]
      rfl
  · rw [exec_events_of_accepts taken, State.piEvents_route]
    rfl
  · rw [exec_mask_of_accepts taken]
    rfl

end Sys2Proof.Machine
end

section
/-! PROOFS. What a step is made of. A command at its port is refused or begins the work of its owner; every other row is a
run of a few moves of the part. Each invariant is then a statement about single moves, and no proof opens `exec` again. -/

namespace Sys2Proof.Machine

/-! ### The work of a command's owner (section 9.5) -/

/-- What the owner of a command makes of a state whose port is OUTSTANDING with it: it answers at once and changes nothing
more, or it does the command's work. -/
inductive Work (src : Source) : Command → State → State → Prop
  | answered (c : Command) (s : State) (a : Answer) : Work src c s (s.answer src c a)
  | edit (s : State) (e : Edit) : Work src e.command s (s.arrive (.edit ⟨src, e⟩))
  | takeNext (s : State) : Work src .takeNext s (s.arrive .takeNext)
  | loadOpen (s : State) (ticket count : Nat) (order : ByteOrder) (a : Answer) (places : count ≤ 6144)
      (cued : s.qm.cuedIs ticket = true) :
      Work src .loadOpen s
        ((s.withSl (s.sl.set (s.sl.target ticket) (.loading (Load.opened ticket count order)))).answer src .loadOpen a)
  | loadData (s : State) (n : SlotName) (l : Load) (bytes : List Byte) (loading : s.sl.loadingSlot = some (n, l)) :
      Work src .loadData s (s.withSl { s.sl with inFlight := some ⟨n, bytes⟩ })
  | loadClose (s : State) (n : SlotName) (l : Load) (a : Answer) (loading : s.sl.loadingSlot = some (n, l)) :
      Work src .loadClose s
        (((s.withSl (s.sl.set n (l.slotAfter l.closing))).loadDone l.closing).answer src .loadClose a)
  | loadAbort (s : State) (n : SlotName) (a : Answer) (target : s.abortTarget = some n) :
      Work src .loadAbort s ((s.withSl (s.sl.set n .empty)).answer src .loadAbort a)
  | start (s : State) (ticket offset : Nat) (g : Song) (back : ReturnState) (ret : s.sc.returnState = some back)
      (cued : s.qm.cuedIs ticket = true) (loaded : s.sl.loadedSong ticket = some g) :
      Work src .start s (s.beginStart ticket offset g back)
  | pause (s : State) (a : Answer) (playing : s.sc.stage = .playing) :
      Work src .pause s (((s.withSc { s.sc with stage := .paused }).raiseAll .stageChanged).answer src .pause a)
  | resume (s : State) (a : Answer) (paused : s.sc.stage = .paused) :
      Work src .resume s (((s.withSc { s.sc with stage := .playing }).raiseAll .stageChanged).answer src .resume a)
  | stop (s : State) (song : s.sc.onSong = true) : Work src .stop s (s.finalise .stopped)
  | sync (s : State) (t : Nat) (ended : Bool) (a : Answer) (song : s.sc.onSong = true) :
      Work src .sync s (((s.setTime t).endIf ended).answer src .sync a)
  | key (c : Command) (s : State) (k : Int) (moved : Bool) (a : Answer) (right : rightsHold (s.rightsOf src) .key = true)
      (song : s.sc.onSong = true) :
      Work src c s (((s.withSc { s.sc with key := clampInt (-6) 6 k }).stageChangedIf moved).answer src c a)
  | tempo (s : State) (p : Nat) (moved : Bool) (a : Answer) (song : s.sc.onSong = true) :
      Work src .tempo s
        (((s.withSc { s.sc with tempo := clampNat 85 115 p }).stageChangedIf moved).answer src .tempo a)
  | skipResult (s : State) (a : Answer) (result : s.sc.stage = .result) :
      Work src .skipResult s (s.endResult.answer src .skipResult a)
  | stageReset (s : State) (starting : s.sc.stage ≠ .starting) (resetting : s.sc.stage ≠ .resetting) :
      Work src .stageReset s s.beginReset
  | glyphLoad (s : State) (p : GlyphParams) (a : Answer) (accepted : glyphAccepted p = true) :
      Work src .glyphLoad s
        (((s.withLr { s.lr with glyphs := loadGlyph ⟨p.code, glyphOf p⟩ s.lr.glyphs }).markTicker).answer src
          .glyphLoad a)
  | idleText (s : State) (text : List Nat) (a : Answer) :
      Work src .idleText s ((s.withTu { s.tu with idleText := text, mark := true }).answer src .idleText a)
  | zones (s : State) (ht hl hm : Nat) (a : Answer) (accepted : zonesAccepted s.vc.height ht hl hm = true) :
      Work src .zones s
        ((s.withPs
          { s.ps with
            profile := s.ps.profile.stage { s.ps.profile.staged with ht := ht, hl := hl, hm := hm } }).answer src
          .zones a)
  | rights (s : State) (panel : Panel) (m : BitVec 4) (a : Answer) :
      Work src .rights s ((s.modifyPort panel.source fun p => { p with rights := m }).answer src .rights a)
  | events (s : State) (a : Answer) :
      Work src .events s ((s.modifyPort src fun p => { p with events := 0#12 }).answer src .events a)
  | mask (s : State) (m : BitVec 12) (a : Answer) :
      Work src .mask s ((s.modifyPort src fun p => { p with mask := m }).answer src .mask a)
  | profileSet (s : State) (f : ProfileField) (v : Int) (a : Answer) :
      Work src .profileSet s
        ((s.withPs { s.ps with profile := s.ps.profile.put (f.range.clamp v) f }).answer src .profileSet a)
  | profileSave (s : State) :
      Work src .profileSave s (s.withPs { s.ps with saving := some s.ps.profile, nonvolatile := none })

theorem State.qmAdd_work (src : Source) (p : AddParams) (s : State) : Work src .add s (s.qmAdd src p) := by
  unfold State.qmAdd
  split
  · exact .edit s (.add p)
  · exact .answered ..

theorem State.qmSingerAdd_work (src : Source) (name : List Nat) (s : State) :
    Work src .singerAdd s (s.qmSingerAdd src name) := by
  unfold State.qmSingerAdd
  split
  · exact .edit s (.singerAdd name)
  · exact .answered ..

theorem State.slLoadOpen_work (src : Source) (ticket count order : Nat) (s : State) :
    Work src .loadOpen s (s.slLoadOpen src ticket count order) := by
  unfold State.slLoadOpen
  split
  · exact .answered ..
  · split
    · refine .loadOpen _ _ _ _ _ ?_ ?_
      · simp_all [Config.slotPlaces]
      · assumption
    · exact .answered ..

theorem State.slLoadData_work (src : Source) (bytes : List Byte) (s : State) :
    Work src .loadData s (s.slLoadData src bytes) := by
  unfold State.slLoadData
  split
  · exact .loadData _ _ _ _ ‹_›
  · exact .answered ..

theorem State.slLoadClose_work (src : Source) (s : State) : Work src .loadClose s (s.slLoadClose src) := by
  unfold State.slLoadClose
  split
  · exact .loadClose _ _ _ _ ‹_›
  · exact .answered ..

theorem State.slLoadAbort_work (src : Source) (s : State) : Work src .loadAbort s (s.slLoadAbort src) := by
  unfold State.slLoadAbort
  split
  · exact .loadAbort _ _ _ ‹_›
  · exact .answered ..

theorem State.scStart_work (src : Source) (ticket offset : Nat) (s : State) :
    Work src .start s (s.scStart src ticket offset) := by
  unfold State.scStart
  split
  · exact .answered ..
  · split
    · exact .answered ..
    · next g loaded =>
      split
      · by_cases cued : s.qm.cuedIs ticket = true
        · exact .start _ _ _ _ _ ‹_› cued (by simpa [cued] using loaded)
        · simp [cued] at loaded
      · exact .answered ..

theorem State.scPause_work (src : Source) (s : State) :
    Work src .pause s (s.scFreeze src .pause .playing .paused) := by
  unfold State.scFreeze
  split
  · exact .pause _ _ ‹_›
  · exact .answered ..

theorem State.scResume_work (src : Source) (s : State) :
    Work src .resume s (s.scFreeze src .resume .paused .playing) := by
  unfold State.scFreeze
  split
  · exact .resume _ _ ‹_›
  · exact .answered ..

theorem State.scStop_work (src : Source) (s : State) : Work src .stop s (s.scStop src) := by
  unfold State.scStop
  split
  · exact .stop _ ‹_›
  · exact .answered ..

theorem State.scSync_work (src : Source) (time : Nat) (s : State) : Work src .sync s (s.scSync src time) := by
  unfold State.scSync
  split
  · exact .sync _ _ _ _ ‹_›
  · exact .answered ..

theorem State.setKey_work (src : Source) (c : Command) (k : Int) (s : State) : Work src c s (s.setKey src c k) := by
  unfold State.setKey
  split
  · exact .answered ..
  · split
    · exact .key _ _ _ _ _ (by simp_all) ‹_›
    · exact .answered ..

theorem State.scKeyStep_work (src : Source) (direction : Int) (s : State) :
    Work src .keyStep s (s.scKeyStep src direction) := by
  unfold State.scKeyStep
  split
  · exact State.setKey_work ..
  · exact .answered ..

theorem State.scTempo_work (src : Source) (p : Nat) (s : State) : Work src .tempo s (s.scTempo src p) := by
  unfold State.scTempo
  split
  · exact .tempo _ _ _ _ ‹_›
  · exact .answered ..

theorem State.scSkipResult_work (src : Source) (s : State) : Work src .skipResult s (s.scSkipResult src) := by
  unfold State.scSkipResult
  split
  · exact .skipResult _ _ ‹_›
  · exact .answered ..

theorem State.scStageReset_work (src : Source) (s : State) : Work src .stageReset s (s.scStageReset src) := by
  unfold State.scStageReset
  split
  · exact .answered ..
  · next h => exact .stageReset _ (fun e => h (.inl e)) (fun e => h (.inr e))

theorem State.lrGlyphLoad_work (src : Source) (p : GlyphParams) (s : State) :
    Work src .glyphLoad s (s.lrGlyphLoad src p) := by
  unfold State.lrGlyphLoad
  split
  · exact .glyphLoad _ _ _ ‹_›
  · exact .answered ..

theorem State.tuIdleText_work (src : Source) (text : List Nat) (s : State) :
    Work src .idleText s (s.tuIdleText src text) := by
  unfold State.tuIdleText
  split
  · exact .idleText ..
  · exact .answered ..

theorem State.vcZones_work (src : Source) (ht hl hm : Nat) (s : State) :
    Work src .zones s (s.vcZones src ht hl hm) := by
  unfold State.vcZones
  split
  · exact .zones _ _ _ _ _ ‹_›
  · exact .answered ..

theorem panelPort_eq_some {n : Nat} {p : Source} (h : panelPort n = some p) : ∃ panel : Panel, p = panel.source := by
  match n, h with
  | 1, h => exact ⟨.one, (Option.some.inj h).symm⟩
  | 2, h => exact ⟨.two, (Option.some.inj h).symm⟩
  | 3, h => exact ⟨.three, (Option.some.inj h).symm⟩

theorem State.piRights_work (src : Source) (port : Nat) (mask : Option Byte) (s : State) :
    Work src .rights s (s.piRights src port mask) := by
  unfold State.piRights
  split
  · exact .answered ..
  · exact .answered ..
  · next named =>
    obtain ⟨panel, rfl⟩ := panelPort_eq_some named
    split
    · exact .rights ..
    · exact .answered ..

theorem State.psSet_work (src : Source) (n : Nat) (v : Int) (s : State) : Work src .profileSet s (s.psSet src n v) := by
  unfold State.psSet
  split
  · exact .answered ..
  · exact .profileSet ..

/-- A frame's owner does the work of its command, whatever the parameters. -/
theorem Command.owner_work (src : Source) (ps : List Byte) (c : Command) (s : State) :
    Work src c s (c.owner src ps s) := by
  cases c with
  | add => exact State.qmAdd_work ..
  | withdraw => exact .edit s (.withdraw _)
  | hold => exact .edit s (.hold _)
  | release => exact .edit s (.release _)
  | raise => exact .edit s (.raise _)
  | lower => exact .edit s (.lower _)
  | singerAdd => exact State.qmSingerAdd_work ..
  | singerDrop => exact .edit s (.singerDrop _)
  | clearQueue => exact .edit s .clearQueue
  | uncue => exact .edit s .uncue
  | takeNext => exact .takeNext s
  | list | query | history | roster | status | lyricStatus | videoStatus | profileGet => exact .answered ..
  | loadOpen => exact State.slLoadOpen_work ..
  | loadData => exact State.slLoadData_work ..
  | loadClose => exact State.slLoadClose_work ..
  | loadAbort => exact State.slLoadAbort_work ..
  | start => exact State.scStart_work ..
  | pause => exact State.scPause_work ..
  | resume => exact State.scResume_work ..
  | stop => exact State.scStop_work ..
  | sync => exact State.scSync_work ..
  | key => exact State.setKey_work ..
  | keyStep => exact State.scKeyStep_work ..
  | tempo => exact State.scTempo_work ..
  | skipResult => exact State.scSkipResult_work ..
  | stageReset => exact State.scStageReset_work ..
  | glyphLoad => exact State.lrGlyphLoad_work ..
  | idleText => exact State.tuIdleText_work ..
  | zones => exact State.vcZones_work ..
  | rights => exact State.piRights_work ..
  | events => exact .events ..
  | mask => exact .mask ..
  | profileSet => exact State.psSet_work ..
  | profileSave => exact .profileSave s

/-! ### A command at its port (R163) -/

/-- What a command frame at a port can do outside reset: nothing where its refusal finds no place, a port refusal, or the
work of an owner. -/
inductive Handled (src : Source) (s : State) : State → Prop
  | nothing : Handled src s s
  | refused (code : Byte) (why : ReplyCode) : Handled src s (s.refuse src code why)
  | routed (c : Command) (t : State) (taken : s.accepts src c) (work : Work src c (s.route src c) t) : Handled src s t

theorem State.command_handled {src : Source} {c : Command} {owner : State → State}
    (work : ∀ s, Work src c s (owner s)) (ok : Bool) (s : State) : Handled src s (s.command src c ok owner) := by
  obtain h | ⟨why, h⟩ | ⟨taken, -, h⟩ := State.command_cases s src c ok owner
  · rw [h]; exact .nothing
  · rw [h]; exact .refused ..
  · rw [h]; exact .routed c _ taken (work _)

theorem State.takeFrame_handled (s : State) (src : Source) (code : Byte) (ps : List Byte) :
    Handled src s (s.takeFrame src code ps) := by
  unfold State.takeFrame
  split
  · exact .refused ..
  · exact State.command_handled (fun u => Command.owner_work src ps _ u) _ s

theorem State.playerFrame_handled (s : State) (frame : List Byte) : Handled .player s (s.playerFrame frame) := by
  unfold State.playerFrame
  split
  · split
    · exact State.takeFrame_handled ..
    · exact .refused ..
  · exact .nothing

/-- A byte on a panel line: the receiver moves on or stays, and a frame it ends is handled. -/
theorem State.panelByte_handled (src : Source) (s : State) (b : Byte) :
    ∃ u, (u = s ∨ ∃ r, u = s.receive src r) ∧ Handled src u (s.panelByte src b) := by
  unfold State.panelByte
  split
  · split
    · exact ⟨_, .inr ⟨_, rfl⟩, .nothing⟩
    · exact ⟨_, .inl rfl, .nothing⟩
  · exact ⟨_, .inr ⟨_, rfl⟩, .nothing⟩
  · split
    · exact ⟨_, .inr ⟨_, rfl⟩, .refused ..⟩
    · split <;> exact ⟨_, .inr ⟨_, rfl⟩, .nothing⟩
  · split <;> exact ⟨_, .inr ⟨_, rfl⟩, .nothing⟩
  · split
    · exact ⟨_, .inr ⟨_, rfl⟩, State.takeFrame_handled ..⟩
    · exact ⟨_, .inr ⟨_, rfl⟩, .refused ..⟩

/-! ### The moves of the part -/

/-- The VC with its lock, its timers and its measurement changed, and nothing of the picture. -/
def VideoCompositor.samePicture (v w : VideoCompositor) : Prop :=
  v.width = w.width ∧ v.height = w.height ∧ v.live = w.live ∧ v.picture = w.picture

/-- A size that an input frame start brings in is one the part takes (R147). -/
def sizeTaken (size : Option (Nat × Nat)) : Prop :=
  ∀ w h, size = some (w, h) → 640 ≤ w ∧ w ≤ 1280 ∧ 360 ≤ h ∧ h ≤ 720

/-- The moves a row of the table is made of, each from any state it can find. -/
inductive Move (i : Instr) (s : State) : State → Prop
  | handled (src : Source) (t : State) (h : Handled src s t) : Move i s t
  | receive (panel : Panel) (r : Receiver) : Move i s (s.receive panel.source r)
  | send (panel : Panel) (n : Nat) : Move i s (s.modifyPort panel.source fun p => p.send n)
  | shiftOut (bytes : List Byte) (reset : s.inReset = true) : Move i s (s.shiftOut bytes)
  | selectFalls : Move i s s.selectFalls
  | clockByte (b : Byte) : Move i s (s.clockByte b)
  | selectEnds : Move i s (s.withPorts { s.ports with transaction := none })
  | editEnd (item : BacklogItem) (rights : BitVec 4) (threshold : Nat) (row : endOf i = some item.edit.command)
      (inFlight : s.qm.inFlight = some ⟨.edit item, rights, threshold⟩) :
      Move i s
        (s.finish item.source item.edit.command (s.qm.applyEdit ⟨.edit item, rights, threshold⟩ item.source item.edit))
  | takeNextEnd (rights : BitVec 4) (threshold : Nat) (row : i = .takeNextApplied)
      (inFlight : s.qm.inFlight = some ⟨.takeNext, rights, threshold⟩) :
      Move i s (s.finish .player .takeNext s.qm.applyTakeNext)
  | startEnd (e : Entry) (row : i = .startNoticeApplied) (notice : s.qm.noticeInFlight = some (.start e.ticket))
      (cued : cuedEntry s.qm.queue = some e) :
      Move i s
        (s.finishNotice
          { s.qm with queue := updateTicket s.qm.queue e.ticket (fun _ => { e with state := .playing }) }
          (State.playSlot e.ticket) (.start e.startKey e.tempo e.duet))
  | startLost (ticket : Nat) (row : i = .startNoticeApplied) (notice : s.qm.noticeInFlight = some (.start ticket))
      (lost : ∀ e, cuedEntry s.qm.queue = some e → e.ticket ≠ ticket) :
      Move i s (s.finishNotice s.qm id .cueLost)
  | retireEnd (kind : EndKind) (time : Nat) (lanes : PerLane Finals) (row : i = .retireNoticeApplied)
      (notice : s.qm.noticeInFlight = some (.retire kind time lanes)) :
      Move i s (s.finishNotice (s.qm.retire kind time lanes) (fun t => t.dropSlots Slot.isPlaying) .retire)
  | resetEnd (time : Nat) (row : i = .resetNoticeApplied) (notice : s.qm.noticeInFlight = some (.reset time)) :
      Move i s (s.finishNotice (s.qm.abandon time) (fun t => t.dropSlots (fun _ => true)) .reset)
  | loadDataEnd (n : SlotName) (bytes : List Byte) (l : Load) (r : FrameResult) (a : Answer)
      (inFlight : s.sl.inFlight = some ⟨n, bytes⟩) (loading : s.sl.get n = .loading l)
      (applied : l.applyFrame 0 (recordsOf bytes) = r) :
      Move i s
        (((s.withSl { s.sl.set n (r.load.slotAfter r.ending) with inFlight := none }).loadDone r.ending).answer .player
          .loadData a)
  | startConfirmed (key : Int) (tempo : Nat) (duet : Bool) (rest : List Confirmation) (p : PendingStart) (a : Answer)
      (confirmed : s.qm.toStage = .start key tempo duet :: rest) (pending : s.sc.pendingStart = some p) :
      Move i s
        ((((s.withQm { s.qm with toStage := rest }).songStart p key tempo duet).raiseAll .songStarted).answer .player
          .start a)
  | cueLost (rest : List Confirmation) (p : PendingStart) (lost : s.qm.toStage = .cueLost :: rest)
      (pending : s.sc.pendingStart = some p) :
      Move i s
        (((s.withQm { s.qm with toStage := rest }).withSc
          { s.sc with
            stage := p.back.stage
            endTime := none
            hold := s.sc.hold.resume
            pendingStart := none }).answer .player .start (refusedWith .cueLost))
  | retireConfirmed (rest : List Confirmation) (confirmed : s.qm.toStage = .retire :: rest) :
      Move i s
        (((((s.withQm { s.qm with toStage := rest }).withSc { s.sc with endTime := none }).showResult).raiseAll
          .songEnded).answerStop)
  | resetConfirmed (rest : List Confirmation) (confirmed : s.qm.toStage = .reset :: rest) :
      Move i s
        ((((s.withQm { s.qm with toStage := rest }).withSc { s.sc with stage := .ready, endTime := none }).raiseAll
          .stageChanged).answer .player .stageReset (okWith []))
  | advance (playing : s.sc.stage = .playing) : Move i s (s.withSc s.sc.advance)
  | finalise (kind : EndKind) (song : s.sc.onSong = true) : Move i s (s.finalise kind)
  | hold (h : HoldTimer) (result : s.sc.stage = .result) : Move i s (s.withSc { s.sc with hold := h })
  | endResult (result : s.sc.stage = .result) : Move i s s.endResult
  | measure (v : VideoCompositor) (same : v.samePicture s.vc) : Move i s (s.withVc v)
  | raise (e : Event) : Move i s (s.raiseAll e)
  | frameStart (size : Option (Nat × Nat)) (taken : sizeTaken size) : Move i s (s.frameStart size)
  | received (e : BitClockEdge) : Move i s (s.withPt (s.pt.received (s.pt.receiver.edge e).1 s.sc.key))
  | sample (x : StereoSample) : Move i s (s.sample x)
  | saveEnd (copy : Profile) (matched : Bool) (saving : s.ps.saving = some copy) : Move i s (s.endSave matched)
  | resetBegins (row : i = .hardwareReset) :
      Move i s
        (((((s.withInReset true).withPorts s.ports.abandon).withQm s.qm.dropWork).withSl
          { s.sl with inFlight := none }).withPs { s.ps with saving := none })
  | resetEnds (row : i = .endOfReset) (reset : s.inReset = true) :
      Move i s ((State.atEndOfReset s.ps.nonvolatile).withPending s.pending)

/-- A run of moves. -/
abbrev Moves (i : Instr) : State → State → Prop := Relation.ReflTransGen (Move i)

theorem Moves.one {i : Instr} {s t : State} (h : Move i s t) : Moves i s t := Relation.ReflTransGen.single h

theorem Moves.foldl {α : Type} {i : Instr} {f : State → α → State} (h : ∀ s x, Moves i s (f s x)) (xs : List α) (s : State) :
    Moves i s (xs.foldl f s) := by
  induction xs generalizing s with
  | nil => exact .refl
  | cons x xs ih => exact (h s x).trans (ih _)

/-! ### Each row as a run of moves -/

theorem State.command_moves {i : Instr} {src : Source} {c : Command} {owner : State → State}
    (work : ∀ s, Work src c s (owner s)) {ok : Bool} {s : State} : Moves i s (s.command src c ok owner) :=
  .one (.handled src _ (State.command_handled work ok s))

theorem State.outsideReset_moves {i : Instr} {f : State → State} (h : ∀ s, Moves i s (f s)) {s : State} :
    Moves i s (s.outsideReset f) := by
  unfold State.outsideReset
  split
  · exact .refl
  · exact h s

theorem State.endEdit_moves {i : Instr} {kind : Command} (row : endOf i = some kind) (s : State) :
    Moves i s (s.endEdit kind) := by
  unfold State.endEdit
  split
  · next f hf =>
    split
    · next item hop =>
      split
      · next hk =>
        subst hk
        obtain ⟨op, rights, threshold⟩ := f
        obtain rfl : op = .edit item := hop
        exact .one (.editEnd item rights threshold row hf)
      · exact .refl
    · exact .refl
    · exact .refl
  · exact .refl

theorem State.endTakeNext_moves (s : State) : Moves .takeNextApplied s s.endTakeNext := by
  unfold State.endTakeNext
  split
  · next f hf =>
    split
    · next hop =>
      obtain ⟨op, rights, threshold⟩ := f
      obtain rfl : op = .takeNext := hop
      exact .one (.takeNextEnd rights threshold rfl hf)
    · exact .refl
    · exact .refl
  · exact .refl

theorem State.endStartNotice_moves (s : State) : Moves .startNoticeApplied s s.endStartNotice := by
  unfold State.endStartNotice
  split
  · next ticket hn =>
    split
    · next e he =>
      split
      · next ht => subst ht; exact .one (.startEnd e rfl hn he)
      · next ht =>
        exact .one (.startLost ticket rfl hn fun k hk => by
          obtain rfl := Option.some.inj (he.symm.trans hk); exact ht)
    · next he => exact .one (.startLost ticket rfl hn fun k hk => nomatch he.symm.trans hk)
  · exact .refl

theorem State.endRetireNotice_moves (s : State) : Moves .retireNoticeApplied s s.endRetireNotice := by
  unfold State.endRetireNotice
  split
  · exact .one (.retireEnd _ _ _ rfl ‹_›)
  · exact .refl

theorem State.endResetNotice_moves (s : State) : Moves .resetNoticeApplied s s.endResetNotice := by
  unfold State.endResetNotice
  split
  · exact .one (.resetEnd _ rfl ‹_›)
  · exact .refl

theorem State.endLoadData_moves {i : Instr} (s : State) : Moves i s s.endLoadData := by
  unfold State.endLoadData
  split
  · exact .refl
  · next f hf =>
    split
    · next l hl => exact .one (.loadDataEnd f.slot f.bytes l _ _ hf hl rfl)
    · exact .refl

theorem State.startConfirmed_moves {i : Instr} (s : State) : Moves i s s.startConfirmed := by
  unfold State.startConfirmed
  split
  · next hc hp => exact .one (.startConfirmed _ _ _ _ _ _ (List.cons_head?_tail hc).symm hp)
  · exact .refl

theorem State.cueLostAnswered_moves {i : Instr} (s : State) : Moves i s s.cueLostAnswered := by
  unfold State.cueLostAnswered
  split
  · next hc hp => exact .one (.cueLost _ _ (List.cons_head?_tail hc).symm hp)
  · exact .refl

theorem State.retireConfirmed_moves {i : Instr} (s : State) : Moves i s s.retireConfirmed := by
  unfold State.retireConfirmed
  split
  · next hc => exact .one (.retireConfirmed _ (List.cons_head?_tail hc).symm)
  · exact .refl

theorem State.resetConfirmed_moves {i : Instr} (s : State) : Moves i s s.resetConfirmed := by
  unfold State.resetConfirmed
  split
  · next hc => exact .one (.resetConfirmed _ (List.cons_head?_tail hc).symm)
  · exact .refl

theorem State.endSave_moves {i : Instr} (matched : Bool) (s : State) : Moves i s (s.endSave matched) := by
  cases h : s.ps.saving with
  | none => simp only [State.endSave, h]; exact .refl
  | some copy => exact .one (.saveEnd copy matched h)

theorem StageController.stage_of_holdLeft {c : StageController} {n : Nat} (h : c.holdLeft = some n) :
    c.stage = .result := by
  unfold StageController.holdLeft at h
  split at h
  · assumption
  · cases h

theorem State.scMillisecond_moves {i : Instr} (s : State) : Moves i s s.scMillisecond := by
  unfold State.scMillisecond
  split
  · next playing =>
    have advanced : Moves i s (s.withSc s.sc.advance) := .one (.advance playing)
    unfold State.endIf
    split
    · refine advanced.tail (.finalise .completed ?_)
      obtain h | h | h | ⟨r, h⟩ := StageController.advance_cases s.sc <;>
        simp [h, StageController.moved, StageController.onSong, playing]
    · exact advanced
  · split
    · next n left =>
      have result := StageController.stage_of_holdLeft left
      split
      · exact .one (.endResult result)
      · exact .one (.hold _ result)
    · exact .refl

theorem sizeTaken_none : sizeTaken none := fun _ _ h => nomatch h

/-- Timers, lock and measurement are no part of the picture. -/
theorem VideoCompositor.samePicture_of {v : VideoCompositor} {lock : LockState} {ever internal : Bool} {timer : Option Nat}
    {m : Option Measurement} {last : Option MeasuredSize} :
    ({ v with
      lock := lock, everLocked := ever, internalTiming := internal, lossTimer := timer, measurement := m,
      lastMeasured := last } : VideoCompositor).samePicture v :=
  ⟨rfl, rfl, rfl, rfl⟩

theorem State.videoLost_moves {i : Instr} (s : State) : Moves i s s.videoLost := by
  have lost : Moves i s (s.withVc { s.vc with lock := .lost, lossTimer := none, internalTiming := true }) :=
    .one (.measure _ VideoCompositor.samePicture_of)
  exact (lost.tail (.raise .videoLost)).tail (.frameStart none sizeTaken_none)

theorem State.vcMillisecond_moves {i : Instr} (s : State) : Moves i s s.vcMillisecond := by
  unfold State.vcMillisecond
  have tick : Moves i s (s.withVc s.vc.tick) :=
    .one (.measure _ VideoCompositor.samePicture_of)
  dsimp only
  split
  · exact tick.trans (State.videoLost_moves _)
  · exact tick

theorem State.millisecond_moves {i : Instr} (s : State) : Moves i s s.millisecond :=
  (State.scMillisecond_moves s).trans (State.vcMillisecond_moves _)

/-- A closed frame in range has a size the part takes (R147). -/
theorem sizeTaken_validSize (m : Option Measurement) (lines : List Nat) :
    sizeTaken (validSize (m.map fun m => (lines.foldl Measurement.line m).close)) := by
  intro w h hs
  cases m with
  | none => cases hs
  | some m =>
    simp only [validSize, Option.map_some, Option.map_eq_some_iff, Option.filter_eq_some_iff] at hs
    obtain ⟨z, ⟨hm, inRange⟩, hz⟩ := hs
    obtain rfl := Option.some.inj hm
    obtain ⟨rfl, rfl⟩ := Prod.mk.inj hz
    simp only [Measurement.close, Bool.and_eq_true, decide_eq_true_eq] at inRange ⊢
    omega

theorem State.inputFrame_moves {i : Instr} (lines : List Nat) (s : State) : Moves i s (s.inputFrame lines) := by
  unfold State.inputFrame
  have size := sizeTaken_validSize s.vc.measurement lines
  generalize s.vc.measurement.map (fun m => (lines.foldl Measurement.line m).close) = c at size
  have closed : Moves i s (s.withVc (s.vc.closeFrame c)) := .one (.measure _ VideoCompositor.samePicture_of)
  dsimp only
  generalize s.withVc (s.vc.closeFrame c) = t at closed
  split
  · next h =>
    rw [h] at size
    have restarted := closed.tail (.measure { t.vc with lossTimer := some Config.lossTime } VideoCompositor.samePicture_of)
    exact restarted.tail (.frameStart _ size)
  · exact closed.tail (.frameStart _ sizeTaken_none)
  · next h =>
    rw [h] at size
    have regained := closed.tail (.measure t.vc.regain VideoCompositor.samePicture_of)
    exact (regained.tail (.raise .videoRegained)).tail (.frameStart _ size)
  · exact closed

theorem State.internalFrame_moves {i : Instr} (s : State) : Moves i s s.internalFrame := by
  unfold State.internalFrame
  split
  · exact .one (.frameStart _ sizeTaken_none)
  · exact .refl

theorem State.bitClock_moves {i : Instr} (s : State) (e : BitClockEdge) : Moves i s (s.bitClock e) := by
  unfold State.bitClock
  have received : Moves i s (s.withPt (s.pt.received (s.pt.receiver.edge e).1 s.sc.key)) := .one (.received e)
  dsimp only
  split
  · exact received.tail (.sample _)
  · exact received

theorem State.panelByte_moves {i : Instr} (panel : Panel) (s : State) (b : Byte) :
    Moves i s (s.panelByte panel.source b) := by
  obtain ⟨u, rfl | ⟨r, rfl⟩, h⟩ := State.panelByte_handled panel.source s b
  · exact .one (.handled _ _ h)
  · exact (Moves.one (.receive panel r)).tail (.handled _ _ h)

theorem State.selectRises_moves {i : Instr} (s : State) : Moves i s s.selectRises := by
  unfold State.selectRises
  have ends : Moves i s (s.withPorts { s.ports with transaction := none }) := .one .selectEnds
  dsimp only
  split
  · exact ends.tail (.handled .player _ (State.playerFrame_handled _ _))
  · exact ends

theorem State.transact_moves {i : Instr} (mosi : List Byte) (rise : Option (List Bool)) (s : State) :
    Moves i s (s.transact mosi rise) := by
  unfold State.transact
  have clocked : Moves i s (mosi.foldl State.clockByte s.selectFalls) :=
    (Moves.one .selectFalls).trans (Moves.foldl (fun u b => .one (.clockByte b)) mosi _)
  dsimp only
  split
  · exact clocked.trans (State.selectRises_moves _)
  · exact clocked

theorem State.playerWrite_moves {i : Instr} (mosi : List Byte) (rise : Option (List Bool)) (s : State) :
    Moves i s (s.playerWrite mosi rise) := by
  unfold State.playerWrite
  split
  · exact .refl
  · exact .refl
  · exact State.transact_moves ..

theorem State.playerRead_moves {i : Instr} (clocked : Nat) (rise : Option (List Bool)) (s : State) :
    Moves i s (s.playerRead clocked rise) := by
  unfold State.playerRead
  split
  · exact .refl
  · exact .refl
  · exact State.transact_moves ..
  · exact State.transact_moves ..
  · exact State.transact_moves ..

/-- Every row answers a next state, which a run of its moves reaches. -/
theorem exec_moves (i : Instr) (s : State) : ∃ t, exec i s = .next t ∧ Moves i s t := by
  cases i with
  | add src p => exact ⟨_, rfl, State.command_moves (State.qmAdd_work src p)⟩
  | withdraw src ticket => exact ⟨_, rfl, State.command_moves fun u => .edit u (.withdraw ticket)⟩
  | hold src ticket => exact ⟨_, rfl, State.command_moves fun u => .edit u (.hold ticket)⟩
  | release src ticket => exact ⟨_, rfl, State.command_moves fun u => .edit u (.release ticket)⟩
  | raise src ticket => exact ⟨_, rfl, State.command_moves fun u => .edit u (.raise ticket)⟩
  | lower src ticket => exact ⟨_, rfl, State.command_moves fun u => .edit u (.lower ticket)⟩
  | singerAdd src name => exact ⟨_, rfl, State.command_moves (State.qmSingerAdd_work src name)⟩
  | singerDrop src n => exact ⟨_, rfl, State.command_moves fun u => .edit u (.singerDrop n)⟩
  | clearQueue src => exact ⟨_, rfl, State.command_moves fun u => .edit u .clearQueue⟩
  | uncue src => exact ⟨_, rfl, State.command_moves fun u => .edit u .uncue⟩
  | takeNext src => exact ⟨_, rfl, State.command_moves fun u => .takeNext u⟩
  | addApplied | withdrawApplied | holdApplied | releaseApplied | raiseApplied | lowerApplied | clearQueueApplied
  | singerAddApplied | singerDropApplied | uncueApplied =>
    exact ⟨_, rfl, State.outsideReset_moves (State.endEdit_moves rfl)⟩
  | takeNextApplied => exact ⟨_, rfl, State.outsideReset_moves State.endTakeNext_moves⟩
  | startNoticeApplied => exact ⟨_, rfl, State.outsideReset_moves State.endStartNotice_moves⟩
  | retireNoticeApplied => exact ⟨_, rfl, State.outsideReset_moves State.endRetireNotice_moves⟩
  | resetNoticeApplied => exact ⟨_, rfl, State.outsideReset_moves State.endResetNotice_moves⟩
  | list | query | history | roster | status | lyricStatus | videoStatus | profileGet =>
    exact ⟨_, rfl, State.command_moves fun u => .answered ..⟩
  | loadOpen src ticket count order => exact ⟨_, rfl, State.command_moves (State.slLoadOpen_work src ticket count order)⟩
  | loadData src bytes => exact ⟨_, rfl, State.command_moves (State.slLoadData_work src bytes)⟩
  | loadDataEnd => exact ⟨_, rfl, State.outsideReset_moves State.endLoadData_moves⟩
  | loadClose src => exact ⟨_, rfl, State.command_moves (State.slLoadClose_work src)⟩
  | loadAbort src => exact ⟨_, rfl, State.command_moves (State.slLoadAbort_work src)⟩
  | start src ticket offset => exact ⟨_, rfl, State.command_moves (State.scStart_work src ticket offset)⟩
  | startConfirmation => exact ⟨_, rfl, State.outsideReset_moves State.startConfirmed_moves⟩
  | cueLostAnswer => exact ⟨_, rfl, State.outsideReset_moves State.cueLostAnswered_moves⟩
  | pause src => exact ⟨_, rfl, State.command_moves (State.scPause_work src)⟩
  | resume src => exact ⟨_, rfl, State.command_moves (State.scResume_work src)⟩
  | stop src => exact ⟨_, rfl, State.command_moves (State.scStop_work src)⟩
  | sync src time => exact ⟨_, rfl, State.command_moves (State.scSync_work src time)⟩
  | key src k => exact ⟨_, rfl, State.command_moves (State.setKey_work src .key k)⟩
  | keyStep src direction => exact ⟨_, rfl, State.command_moves (State.scKeyStep_work src direction)⟩
  | tempo src p => exact ⟨_, rfl, State.command_moves (State.scTempo_work src p)⟩
  | skipResult src => exact ⟨_, rfl, State.command_moves (State.scSkipResult_work src)⟩
  | stageReset src => exact ⟨_, rfl, State.command_moves (State.scStageReset_work src)⟩
  | resetConfirmation => exact ⟨_, rfl, State.outsideReset_moves State.resetConfirmed_moves⟩
  | timebaseMillisecond => exact ⟨_, rfl, State.outsideReset_moves State.millisecond_moves⟩
  | songEnd | holdTimerExpiry | lossTimerExpiry =>
    refine ⟨_, rfl, State.outsideReset_moves fun u => ?_⟩
    split
    · exact State.millisecond_moves u
    · exact .refl
  | retireConfirmation => exact ⟨_, rfl, State.outsideReset_moves State.retireConfirmed_moves⟩
  | analysisFrameCompletion edges =>
    exact ⟨_, rfl, State.outsideReset_moves (Moves.foldl State.bitClock_moves edges)⟩
  | glyphLoad src p => exact ⟨_, rfl, State.command_moves (State.lrGlyphLoad_work src p)⟩
  | idleText src text => exact ⟨_, rfl, State.command_moves (State.tuIdleText_work src text)⟩
  | zones src ht hl hm => exact ⟨_, rfl, State.command_moves (State.vcZones_work src ht hl hm)⟩
  | inputFrameStart lines => exact ⟨_, rfl, State.outsideReset_moves (State.inputFrame_moves lines)⟩
  | outputFrameStart => exact ⟨_, rfl, State.outsideReset_moves State.internalFrame_moves⟩
  | playerWriteTransaction mosi rise =>
    refine ⟨_, rfl, ?_⟩
    split
    · exact .one (.shiftOut _ ‹_›)
    · exact State.playerWrite_moves mosi rise s
  | playerReadTransaction clocked rise =>
    refine ⟨_, rfl, ?_⟩
    split
    · exact .one (.shiftOut _ ‹_›)
    · exact State.playerRead_moves clocked rise s
  | panelFrame panel bytes =>
    exact ⟨_, rfl, State.outsideReset_moves (Moves.foldl (State.panelByte_moves panel) bytes)⟩
  | panelLineBreak panel => exact ⟨_, rfl, State.outsideReset_moves fun u => .one (.receive panel .hunting)⟩
  | panelReplyDelivery bytes => exact ⟨_, rfl, State.outsideReset_moves fun u => .one (.send bytes.panel bytes.count)⟩
  | rights src port mask => exact ⟨_, rfl, State.command_moves (State.piRights_work src port mask)⟩
  | events src => exact ⟨_, rfl, State.command_moves fun u => .events ..⟩
  | mask src m => exact ⟨_, rfl, State.command_moves fun u => .mask ..⟩
  | profileSet src field value => exact ⟨_, rfl, State.command_moves (State.psSet_work src field value)⟩
  | profileSave src => exact ⟨_, rfl, State.command_moves fun u => .profileSave u⟩
  | profileSaveEnd matched => exact ⟨_, rfl, State.outsideReset_moves (State.endSave_moves matched)⟩
  | hardwareReset => exact ⟨_, rfl, .one (.resetBegins rfl)⟩
  | endOfReset =>
    refine ⟨_, rfl, ?_⟩
    split
    · exact .one (.resetEnds rfl ‹_›)
    · exact .refl

/-! ### What every move keeps, every step keeps -/

theorem exec_keeps {P : State → Prop} {i : Instr} (h : ∀ s t, Move i s t → P s → P t) {s t : State}
    (run : exec i s = .next t) (hs : P s) : P t := by
  obtain ⟨u, hu, moves⟩ := exec_moves i s
  obtain rfl : u = t := Host.Outcome.next.inj (hu.symm.trans run)
  clear run hu
  induction moves with
  | refl => exact hs
  | tail _ last kept => exact h _ _ last kept

/-- An invariant that does not look at the queue of waiting commands, and that every move keeps, is kept by every step. -/
theorem step_keeps {P : State → Prop} (pending : ∀ s q, P s → P (s.withPending q))
    (h : ∀ i s t, Move i s t → P s → P t) {s t : State} (run : step s = .next t) (hs : P s) : P t := by
  unfold step at run
  split at run
  · obtain rfl : s = t := Host.Outcome.next.inj run
    exact hs
  · exact exec_keeps (h _) run (pending _ _ hs)

end Sys2Proof.Machine
end

section
/-! PROOFS. Fields of a choice between two states, and what the operations that choose do to the blocks they reach: the layer
between the moves and the invariants. -/

namespace Sys2Proof.Machine

/-! ### A field of a choice -/

section
variable (c : Prop) [Decidable c] (a b : State)

@[simp] theorem State.ite_pending : (if c then a else b).pending = if c then a.pending else b.pending := apply_ite ..
@[simp] theorem State.ite_inReset : (if c then a else b).inReset = if c then a.inReset else b.inReset := apply_ite ..
@[simp] theorem State.ite_ports : (if c then a else b).ports = if c then a.ports else b.ports := apply_ite ..
@[simp] theorem State.ite_qm : (if c then a else b).qm = if c then a.qm else b.qm := apply_ite ..
@[simp] theorem State.ite_sl : (if c then a else b).sl = if c then a.sl else b.sl := apply_ite ..
@[simp] theorem State.ite_sc : (if c then a else b).sc = if c then a.sc else b.sc := apply_ite ..
@[simp] theorem State.ite_pt : (if c then a else b).pt = if c then a.pt else b.pt := apply_ite ..
@[simp] theorem State.ite_su : (if c then a else b).su = if c then a.su else b.su := apply_ite ..
@[simp] theorem State.ite_lr : (if c then a else b).lr = if c then a.lr else b.lr := apply_ite ..
@[simp] theorem State.ite_tu : (if c then a else b).tu = if c then a.tu else b.tu := apply_ite ..
@[simp] theorem State.ite_mu : (if c then a else b).mu = if c then a.mu else b.mu := apply_ite ..
@[simp] theorem State.ite_vc : (if c then a else b).vc = if c then a.vc else b.vc := apply_ite ..
@[simp] theorem State.ite_ps : (if c then a else b).ps = if c then a.ps else b.ps := apply_ite ..

end

/-! ### Operations that reach the port records alone -/

/-- The Player's clock reaches the port records alone. -/
theorem State.clockByte_withPorts (s : State) (b : Byte) : ∃ p, s.clockByte b = s.withPorts p := by
  unfold State.clockByte
  split
  · exact ⟨s.ports, rfl⟩
  all_goals exact ⟨_, rfl⟩

theorem State.selectFalls_withPorts (s : State) : ∃ p, s.selectFalls = s.withPorts p := by
  unfold State.selectFalls
  split
  · exact ⟨_, rfl⟩
  · exact ⟨s.ports, rfl⟩

/-- The answer to a STOP reaches the port records alone. -/
theorem State.answerStop_withPorts (s : State) : ∃ p, s.answerStop = s.withPorts p := by
  unfold State.answerStop
  split
  · exact ⟨_, rfl⟩
  · exact ⟨s.ports, rfl⟩

/-- The end of a save reaches the port records and the PS. -/
theorem State.endSave_withPs (s : State) (matched : Bool) {copy : Profile} (h : s.ps.saving = some copy) :
    ∃ p q, s.endSave matched = (s.withPorts p).withPs q ∧ q.profile = s.ps.profile ∧ q.saving = none
      ∧ (q.nonvolatile = none ∨ q.nonvolatile = some copy) := by
  unfold State.endSave
  rw [h]
  cases matched with
  | true => exact ⟨_, _, rfl, rfl, rfl, .inr rfl⟩
  | false => exact ⟨_, _, rfl, rfl, rfl, .inl rfl⟩

/-- All that the RETIRE confirmation shows on the stage (R79). -/
theorem State.showResult_cases (s : State) :
    (s.sc.stage = .resetting ∧ s.showResult = s)
      ∨ (s.sc.stage ≠ .resetting ∧ s.ps.profile.resultHold = 0
          ∧ s.showResult
            = ((s.withSc { s.sc with stage := .ready }).withLr (s.lr.emptied .empty)).raiseAll .stageChanged)
      ∨ (s.sc.stage ≠ .resetting ∧ s.ps.profile.resultHold ≠ 0
          ∧ s.showResult
            = (s.withSc { s.sc with stage := .result, hold := .running s.ps.profile.resultHold }).withLr
                (s.lr.showCard s.vc.geometry s.qm.newest)) := by
  unfold State.showResult
  by_cases resetting : s.sc.stage = .resetting
  · simp [resetting]
  · by_cases zero : s.ps.profile.resultHold = 0 <;> simp [resetting, zero]

/-! ### The queue of waiting commands and the reset flag -/

theorem Work.pending_inReset {src : Source} {c : Command} {s t : State} (h : Work src c s t) :
    t.pending = s.pending ∧ t.inReset = s.inReset := by
  cases h <;>
    simp [State.loadDone, State.beginStart, State.finalise, State.setTime, State.endIf, State.stageChangedIf,
      State.endResult, State.beginReset, State.raisePlayer]

theorem Handled.pending_inReset {src : Source} {s t : State} (h : Handled src s t) :
    t.pending = s.pending ∧ t.inReset = s.inReset := by
  cases h with
  | nothing => exact ⟨rfl, rfl⟩
  | refused => simp
  | routed c t taken work => simpa using work.pending_inReset

theorem Move.pending {i : Instr} {s t : State} (h : Move i s t) : t.pending = s.pending := by
  cases h with
  | handled _ _ h => exact h.pending_inReset.1
  | clockByte b => obtain ⟨p, h⟩ := s.clockByte_withPorts b; simp [h]
  | selectFalls => obtain ⟨p, h⟩ := s.selectFalls_withPorts; simp [h]
  | retireConfirmed rest _ => 
    obtain ⟨p, h⟩ := State.answerStop_withPorts _
    rw [h]
    obtain ⟨-, h⟩ | ⟨-, -, h⟩ | ⟨-, -, h⟩ := State.showResult_cases _ <;> rw [State.withPorts_pending, State.raiseAll_pending, h] <;> simp
  | saveEnd _ matched saving => obtain ⟨p, q, h, -⟩ := s.endSave_withPs matched saving; simp [h]
  | _ =>
    simp [State.receive, State.shiftOut, State.finish, State.finishNotice, State.playSlot, State.loadDone,
      State.raisePlayer, State.songStart, State.finalise, State.endResult,
      State.frameStart, State.sample, State.micClip]

theorem Move.inReset {i : Instr} {s t : State} (h : Move i s t) (begins : i ≠ .hardwareReset) (ends : i ≠ .endOfReset) :
    t.inReset = s.inReset := by
  cases h with
  | handled _ _ h => exact h.pending_inReset.2
  | clockByte b => obtain ⟨p, h⟩ := s.clockByte_withPorts b; simp [h]
  | selectFalls => obtain ⟨p, h⟩ := s.selectFalls_withPorts; simp [h]
  | retireConfirmed rest _ => 
    obtain ⟨p, h⟩ := State.answerStop_withPorts _
    rw [h]
    obtain ⟨-, h⟩ | ⟨-, -, h⟩ | ⟨-, -, h⟩ := State.showResult_cases _ <;> rw [State.withPorts_inReset, State.raiseAll_inReset, h] <;> simp
  | saveEnd _ matched saving => obtain ⟨p, q, h, -⟩ := s.endSave_withPs matched saving; simp [h]
  | resetBegins row => exact absurd row begins
  | resetEnds row => exact absurd row ends
  | _ =>
    simp [State.receive, State.shiftOut, State.finish, State.finishNotice, State.playSlot, State.loadDone,
      State.raisePlayer, State.songStart, State.finalise, State.endResult,
      State.frameStart, State.sample, State.micClip]

theorem exec_pending {i : Instr} {s t : State} (run : exec i s = .next t) : t.pending = s.pending :=
  exec_keeps (P := fun u => u.pending = s.pending) (fun _ _ m h => m.pending.trans h) run rfl

/-- Settles O2: the moves of a row keep the waiting commands, and those of a row that is no reset event the flag. -/
theorem everyCommandAnswers : Obligations.EveryCommandAnswers := by
  unfold Obligations.EveryCommandAnswers
  intro c s
  obtain ⟨t, run, -⟩ := exec_moves c s
  exact ⟨t, run, exec_pending run, fun begins ends =>
    exec_keeps (P := fun u => u.inReset = s.inReset) (fun _ _ m h => (m.inReset begins ends).trans h) run rfl⟩

/-! ### One step, and reset (R181) -/

/-- Settles O1: both clauses are the two branches of `step`. -/
theorem stepTakesTheFront : Obligations.StepTakesTheFront := by
  unfold Obligations.StepTakesTheFront
  refine ⟨fun c q s => rfl, fun s empty => ?_⟩
  simp [step, empty]

theorem State.command_of_inReset {s : State} (h : s.inReset = true) (src : Source) (c : Command) (ok : Bool)
    (owner : State → State) : s.command src c ok owner = s := by
  simp [State.command, h]

theorem State.outsideReset_of_inReset {s : State} (h : s.inReset = true) (f : State → State) : s.outsideReset f = s := by
  simp [State.outsideReset, h]

/-- Settles O3: a command meets `State.command` or `State.outsideReset` first, and a transaction the test of the flag. -/
theorem nothingHappensInReset : Obligations.NothingHappensInReset := by
  unfold Obligations.NothingHappensInReset
  intro s reset
  have ports (src : Source) (c : Command) (ok : Bool) (owner : State → State) :
      Host.Outcome.next (s.command src c ok owner) = (.next s : Result) :=
    congrArg _ (State.command_of_inReset reset src c ok owner)
  have others (f : State → State) : Host.Outcome.next (s.outsideReset f) = (.next s : Result) :=
    congrArg _ (State.outsideReset_of_inReset reset f)
  refine ⟨fun c begins ends write read => ?_, fun m b => ?_, fun n b => ?_⟩
  · cases c with
    | hardwareReset => exact absurd rfl begins
    | endOfReset => exact absurd rfl ends
    | playerWriteTransaction m b => exact absurd rfl (write m b)
    | playerReadTransaction n b => exact absurd rfl (read n b)
    | addApplied | withdrawApplied | holdApplied | releaseApplied | raiseApplied | lowerApplied | clearQueueApplied
    | singerAddApplied | singerDropApplied | uncueApplied | takeNextApplied | startNoticeApplied | retireNoticeApplied
    | resetNoticeApplied | loadDataEnd | startConfirmation | cueLostAnswer | resetConfirmation | timebaseMillisecond
    | songEnd | retireConfirmation | holdTimerExpiry | analysisFrameCompletion | inputFrameStart | lossTimerExpiry
    | outputFrameStart | panelFrame | panelLineBreak | panelReplyDelivery | profileSaveEnd => exact others _
    | _ => exact ports _ _ _ _
  · exact congrArg Host.Outcome.next (if_pos reset)
  · exact congrArg Host.Outcome.next (if_pos reset)

/-! ### The reset events (R42, R157, R180, R181) -/

theorem QueueManager.singerAt_afterReset (n : Nat) : QueueManager.afterReset.singerAt n = none := by
  unfold QueueManager.singerAt
  split
  · rfl
  · cases h : QueueManager.afterReset.roster[n - 1]? with
    | none => rfl
    | some r =>
      obtain ⟨hn, rfl⟩ := Vector.getElem?_eq_some_iff.1 h
      simp [QueueManager.afterReset]

/-- PART-RESET is in the set and in the mask of every port at the end of reset, so every attention line is high. -/
theorem State.attention_atEndOfReset (copy : Option Profile) (q : List Instr) (src : Source) :
    ((State.atEndOfReset copy).withPending q).attention src = true := by
  refine (State.attention_eq_true_iff _ _).2 ⟨rfl, ?_⟩
  cases src with
  | player => show 0x800#12 &&& 0xFFF#12 ≠ 0#12; decide
  | panel1 | panel2 | panel3 => show 0x800#12 &&& 0x839#12 ≠ 0#12; decide

/-- Settles O5: both reset events are written out block by block in the model. -/
theorem hardwareResetRuns : Obligations.HardwareResetRuns := by
  unfold Obligations.HardwareResetRuns
  refine ⟨fun s => ⟨_, rfl, rfl, fun src => ?_, rfl, rfl, rfl, rfl, rfl, rfl, rfl, rfl, rfl, rfl, rfl, rfl⟩,
    fun s reset => ?_⟩
  · cases src <;> rfl
  · have taken : exec .endOfReset s = .next ((State.atEndOfReset s.ps.nonvolatile).withPending s.pending) :=
      congrArg Host.Outcome.next (if_pos reset)
    refine ⟨_, taken, rfl, rfl, rfl, rfl, ?_, rfl, rfl, QueueManager.singerAt_afterReset, rfl, rfl, rfl, rfl, rfl, rfl,
      rfl, rfl, rfl, rfl, rfl, ?_, ?_, rfl, rfl, rfl, rfl, rfl, rfl, rfl, ?_, ?_⟩
    · simp [State.atEndOfReset, ProfileStore.afterReset]
    · intro l; cases l <;> rfl
    · intro l; cases l <;> rfl
    · intro src
      have line := State.attention_atEndOfReset s.ps.nonvolatile s.pending src
      cases src <;> exact ⟨rfl, rfl, rfl, rfl, rfl, rfl, rfl, rfl, line⟩
    · intro panel; cases panel <;> rfl

end Sys2Proof.Machine
end

section
/-! PROOFS. The port records (chapter 9): what keeps them consistent, port by port and then move by move; and what an answer
and a refusal leave. -/

namespace Sys2Proof.Machine

/-! ### One port record (R157, R162) -/

theorem Port.place_eq_none_of_first_eq_none {p : Port} (h : p.consistent) (first : p.first = none) (pl : Place) :
    p.place pl = none := by
  obtain ⟨reply, refusal⟩ := h.2.1.1 first
  cases pl
  · exact reply
  · exact refusal

/-- An answer into the reply place. -/
theorem Port.consistent_answered {p : Port} (h : p.consistent) (r : Reply) :
    ({ p with condition := .answered }.fill .reply r).consistent := by
  obtain ⟨-, -, filled, sends⟩ := h
  refine ⟨by simp [Port.fill, Port.setPlace], by simp [Port.fill, Port.setPlace], fun pl hpl => ?_, fun t ht => ?_⟩
  · cases pl with
    | reply => simp [Port.fill, Port.setPlace, Port.place]
    | refusal =>
      cases hf : p.first with
      | none => simp [Port.fill, Port.setPlace, hf] at hpl
      | some k =>
        obtain rfl : k = .refusal := by simpa [Port.fill, Port.setPlace, hf] using hpl
        simpa [Port.fill, Port.setPlace, Port.place] using filled _ hf
  · obtain ⟨hf, left⟩ := sends t ht
    exact ⟨by simp [Port.fill, Port.setPlace, hf], left⟩

/-- A refusal into the refusal place. -/
theorem Port.consistent_refused {p : Port} (h : p.consistent) (r : Reply) : (p.fill .refusal r).consistent := by
  obtain ⟨answered, -, filled, sends⟩ := h
  refine ⟨by simpa [Port.fill, Port.setPlace] using answered, by simp [Port.fill, Port.setPlace], fun pl hpl => ?_,
    fun t ht => ?_⟩
  · cases pl with
    | refusal => simp [Port.fill, Port.setPlace, Port.place]
    | reply =>
      cases hf : p.first with
      | none => simp [Port.fill, Port.setPlace, hf] at hpl
      | some k =>
        obtain rfl : k = .reply := by simpa [Port.fill, Port.setPlace, hf] using hpl
        simpa [Port.fill, Port.setPlace, Port.place] using filled _ hf
  · obtain ⟨hf, left⟩ := sends t ht
    exact ⟨by simp [Port.fill, Port.setPlace, hf], left⟩

/-- All that an idle transmitter can do: nothing where no reply waits, and otherwise it begins the first. -/
theorem Port.beginSending_cases {p : Port} (h : p.consistent) :
    (p.beginSending = p ∧ p.sendsAtOnce)
      ∨ ∃ pl r, p.transmitter = none ∧ p.first = some pl ∧ p.place pl = some r
          ∧ p.beginSending = { p with transmitter := some ⟨pl, panelWire r.bytes⟩ } := by
  unfold Port.beginSending Port.sendsAtOnce
  cases ht : p.transmitter with
  | some t => simp
  | none =>
    cases hf : p.first with
    | none => simp
    | some pl =>
      obtain ⟨r, hr⟩ := Option.isSome_iff_exists.1 (h.2.2.1 pl hf)
      simp [hr]

theorem Port.consistent_beginSending {p : Port} (h : p.consistent) : p.beginSending.consistent := by
  obtain ⟨he, -⟩ | ⟨pl, r, ht, hf, hr, he⟩ := Port.beginSending_cases h
  · rwa [he]
  · obtain ⟨answered, first, filled, -⟩ := h
    rw [he]
    refine ⟨answered, first, filled, fun t ht => ?_⟩
    obtain rfl := Option.some.inj ht
    exact ⟨hf, by simp [panelWire]⟩

theorem Port.sendsAtOnce_beginSending {p : Port} (h : p.consistent) : p.beginSending.sendsAtOnce := by
  obtain ⟨he, idle⟩ | ⟨pl, r, ht, hf, hr, he⟩ := Port.beginSending_cases h
  · rwa [he]
  · rw [he]
    exact fun none => nomatch none

/-- The delivery of the reply that stands first. -/
theorem Port.consistent_deliver {p : Port} {pl : Place} (h : p.consistent) (idle : p.transmitter = none) :
    (p.deliver pl).consistent := by
  obtain ⟨answered, -, -, -⟩ := h
  cases pl with
  | reply =>
    refine ⟨by simp [Port.deliver, Port.setPlace], ?_, fun k hk => ?_, fun t ht => ?_⟩
    · cases hr : p.refusalPlace <;> simp [Port.deliver, Port.setPlace, Port.place, Place.other, hr]
    · cases hr : p.refusalPlace <;> simp [Port.deliver, Port.setPlace, Port.place, Place.other, hr] at hk ⊢
      subst hk
      rfl
    · simp [Port.deliver, Port.setPlace, idle] at ht
  | refusal =>
    refine ⟨by simpa [Port.deliver, Port.setPlace] using answered, ?_, fun k hk => ?_, fun t ht => ?_⟩
    · cases hr : p.replyPlace <;> simp [Port.deliver, Port.setPlace, Port.place, Place.other, hr]
    · cases hr : p.replyPlace <;> simp [Port.deliver, Port.setPlace, Port.place, Place.other, hr] at hk ⊢
      subst hk
      rfl
    · simp [Port.deliver, Port.setPlace, idle] at ht

theorem Port.consistent_idle {p : Port} (h : p.consistent) (sent : List Byte) :
    ({ p with transmitter := none, sent := sent } : Port).consistent :=
  ⟨h.1, h.2.1, h.2.2.1, fun _ none => nomatch none⟩

/-- A transmitter that sends keeps its port consistent, and is idle afterwards only where nothing waits. -/
theorem Port.consistent_send {p : Port} (h : p.consistent) (atOnce : p.sendsAtOnce) (n : Nat) :
    (p.send n).consistent ∧ (p.send n).sendsAtOnce := by
  obtain ⟨-, he⟩ | ⟨t, ht, ⟨fewer, he⟩ | ⟨-, he⟩⟩ := Port.send_cases p n
  · rw [he]; exact ⟨h, atOnce⟩
  · rw [he]
    refine ⟨⟨h.1, h.2.1, h.2.2.1, fun u hu => ?_⟩, fun none => nomatch none⟩
    obtain rfl := Option.some.inj hu
    exact ⟨(h.2.2.2 t ht).1, by simpa using fewer⟩
  · have delivered := Port.consistent_deliver (pl := t.place) (Port.consistent_idle h t.left) rfl
    rw [he]
    exact ⟨Port.consistent_beginSending delivered, Port.sendsAtOnce_beginSending delivered⟩

/-! ### One port record changed -/

/-- The two ways an answer and a refusal are changes of one port record. -/
theorem State.answer_eq_modifyPort (s : State) (src : Source) (c : Command) (a : Answer) :
    s.answer src c a
      = s.modifyPort src fun p =>
          if src = .player then ({ p with condition := .answered }.fill .reply ⟨c.code, a⟩)
          else ({ p with condition := .answered }.fill .reply ⟨c.code, a⟩).beginSending := by
  unfold State.answer State.put
  rw [State.modifyPort_modifyPort]

theorem State.put_eq_modifyPort (s : State) (src : Source) (pl : Place) (r : Reply) :
    s.put src pl r = s.modifyPort src fun p => if src = .player then p.fill pl r else (p.fill pl r).beginSending := rfl

theorem panel_source_ne_player (panel : Panel) : panel.source ≠ .player := by cases panel <;> decide

theorem source_eq_player_or_panel (src : Source) : src = .player ∨ ∃ panel : Panel, src = panel.source := by
  cases src with
  | player => exact .inl rfl
  | panel1 => exact .inr ⟨.one, rfl⟩
  | panel2 => exact .inr ⟨.two, rfl⟩
  | panel3 => exact .inr ⟨.three, rfl⟩

theorem State.port_withTransaction (s : State) (tr : Option Transaction) (miso : List Byte) (src : Source) :
    (s.withPorts { s.ports with transaction := tr, miso := miso }).port src = s.port src := by cases src <;> rfl

namespace State.portsConsistent

/-- A change of one port record. -/
theorem modifyPort {s : State} (h : s.portsConsistent) (src : Source) {f : Port → Port}
    (consistent : (f (s.port src)).consistent)
    (player : src = .player → (s.modifyPort .player f).ports.readsFirst ∧ (f s.ports.player).transmitter = none)
    (panel : src ≠ .player → (f (s.port src)).sendsAtOnce) : (s.modifyPort src f).portsConsistent := by
  obtain ⟨all, atOnce, reads, idle⟩ := h
  refine ⟨fun o => ?_, fun k => ?_, ?_, ?_⟩
  · by_cases ho : o = src
    · subst ho; rwa [State.port_modifyPort_same]
    · rw [State.port_modifyPort_other _ _ _ _ ho]; exact all o
  · by_cases hk : k.source = src
    · subst hk; rw [State.port_modifyPort_same]; exact panel (panel_source_ne_player k)
    · rw [State.port_modifyPort_other _ _ _ _ hk]; exact atOnce k
  · cases src with
    | player => exact (player rfl).1
    | panel1 | panel2 | panel3 => exact reads
  · cases src with
    | player => exact (player rfl).2
    | panel1 | panel2 | panel3 => exact idle

/-- A change of one port record that keeps its places, their order, its condition and its transmitter. -/
theorem modifyPort_same {s : State} (h : s.portsConsistent) (src : Source) {f : Port → Port}
    (same : ∀ p, (f p).condition = p.condition ∧ (f p).replyPlace = p.replyPlace ∧ (f p).refusalPlace = p.refusalPlace
      ∧ (f p).first = p.first ∧ (f p).transmitter = p.transmitter) : (s.modifyPort src f).portsConsistent := by
  have places (p : Port) : (f p).place = p.place := by
    obtain ⟨-, reply, refusal, -⟩ := same p
    funext pl
    cases pl
    · exact reply
    · exact refusal
  refine h.modifyPort src ?_ (fun hp => ⟨fun pl left ht => ?_, ?_⟩) fun hp => ?_
  · obtain ⟨condition, reply, refusal, first, transmitter⟩ := same (s.port src)
    have := h.1 src
    unfold Port.consistent at this ⊢
    rwa [condition, reply, refusal, first, transmitter, places]
  · obtain ⟨-, -, -, first, -⟩ := same s.ports.player
    exact ⟨first.trans (h.2.2.1 pl left ht).1, (h.2.2.1 pl left ht).2⟩
  · obtain ⟨-, -, -, -, transmitter⟩ := same s.ports.player
    exact transmitter.trans h.2.2.2
  · obtain ⟨-, -, -, first, transmitter⟩ := same (s.port src)
    obtain rfl | ⟨k, rfl⟩ := source_eq_player_or_panel src
    · exact absurd rfl hp
    · unfold Port.sendsAtOnce
      rw [first, transmitter]
      exact h.2.1 k

/-- A Player read in progress still sends what stands first, where a reply is put behind it. -/
theorem readsFirst_of_getD {s : State} (h : s.portsConsistent) {f : Port → Port} {pl : Place}
    (first : (f s.ports.player).first = some (s.ports.player.first.getD pl)) :
    (s.modifyPort .player f).ports.readsFirst := by
  intro k left ht
  obtain ⟨hk, hl⟩ := h.2.2.1 k left ht
  exact ⟨by rw [show (s.modifyPort .player f).ports.player = f s.ports.player from rfl, first, hk]; rfl, hl⟩

theorem answer {s : State} (h : s.portsConsistent) (src : Source) (c : Command) (a : Answer) :
    (s.answer src c a).portsConsistent := by
  rw [State.answer_eq_modifyPort]
  have filled := Port.consistent_answered (h.1 src) ⟨c.code, a⟩
  refine h.modifyPort src ?_ (fun hp => ⟨h.readsFirst_of_getD (pl := .reply) ?_, ?_⟩) fun hp => ?_
  · split
    · exact filled
    · exact Port.consistent_beginSending filled
  · rw [if_pos hp]; rfl
  · rw [if_pos hp]; exact h.2.2.2
  · rw [if_neg hp]; exact Port.sendsAtOnce_beginSending filled

theorem refuse {s : State} (h : s.portsConsistent) (src : Source) (code : Byte) (why : ReplyCode) :
    (s.refuse src code why).portsConsistent := by
  obtain ⟨-, he⟩ | ⟨-, he⟩ := State.refuse_cases s src code why
  · rwa [he]
  · rw [he, State.put_eq_modifyPort]
    have filled := Port.consistent_refused (h.1 src) ⟨code, { code := why }⟩
    refine h.modifyPort src ?_ (fun hp => ⟨h.readsFirst_of_getD (pl := .refusal) ?_, ?_⟩) fun hp => ?_
    · split
      · exact filled
      · exact Port.consistent_beginSending filled
    · rw [if_pos hp]; rfl
    · rw [if_pos hp]; exact h.2.2.2
    · rw [if_neg hp]; exact Port.sendsAtOnce_beginSending filled

/-- A free port holds no reply, so routing a command leaves it consistent. -/
theorem route {s : State} (h : s.portsConsistent) {src : Source} {c : Command} (taken : s.accepts src c) :
    (s.route src c).portsConsistent := by
  obtain ⟨-, free, -⟩ := taken
  obtain ⟨answered, first, filled, sends⟩ := h.1 src
  have noReply : ¬ (s.port src).replyPlace.isSome := fun some => by
    rw [free] at answered
    exact nomatch answered.1 some
  refine h.modifyPort src ⟨?_, first, filled, sends⟩ (fun hp => ⟨h.2.2.1, h.2.2.2⟩) fun hp => ?_
  · exact iff_of_false noReply (fun e => nomatch e)
  · obtain rfl | ⟨k, rfl⟩ := source_eq_player_or_panel src
    · exact absurd rfl hp
    · exact h.2.1 k

theorem raiseAll {s : State} (h : s.portsConsistent) (e : Event) : (s.raiseAll e).portsConsistent := by
  obtain ⟨all, atOnce, reads, idle⟩ := h
  refine ⟨fun src => ?_, fun panel => ?_, reads, idle⟩
  · rw [State.port_raiseAll]; exact all src
  · rw [State.port_raiseAll]; exact atOnce panel

theorem raisePlayer {s : State} (h : s.portsConsistent) (e : Event) : (s.raisePlayer e).portsConsistent :=
  h.modifyPort_same .player fun _ => ⟨rfl, rfl, rfl, rfl, rfl⟩

/-- Another Player transaction, which reads what stands first if it reads. -/
theorem transaction {s : State} (h : s.portsConsistent) {tr : Option Transaction} {miso : List Byte}
    (reads : ∀ pl left, tr = some (.reading pl left) → s.ports.player.first = some pl ∧ left ≠ []) :
    (s.withPorts { s.ports with transaction := tr, miso := miso }).portsConsistent :=
  ⟨fun src => by rw [State.port_withTransaction]; exact h.1 src,
    fun panel => by rw [State.port_withTransaction]; exact h.2.1 panel, reads, h.2.2.2⟩

theorem withRights {s : State} (h : s.portsConsistent) (src : Source) (m : BitVec 4) :
    (s.modifyPort src fun p => { p with rights := m }).portsConsistent :=
  h.modifyPort_same (f := fun p => { p with rights := m }) src fun _ => ⟨rfl, rfl, rfl, rfl, rfl⟩

theorem withEvents {s : State} (h : s.portsConsistent) (src : Source) (m : BitVec 12) :
    (s.modifyPort src fun p => { p with events := m }).portsConsistent :=
  h.modifyPort_same (f := fun p => { p with events := m }) src fun _ => ⟨rfl, rfl, rfl, rfl, rfl⟩

theorem withMask {s : State} (h : s.portsConsistent) (src : Source) (m : BitVec 12) :
    (s.modifyPort src fun p => { p with mask := m }).portsConsistent :=
  h.modifyPort_same (f := fun p => { p with mask := m }) src fun _ => ⟨rfl, rfl, rfl, rfl, rfl⟩

theorem receive {s : State} (h : s.portsConsistent) (src : Source) (r : Receiver) :
    (s.receive src r).portsConsistent :=
  h.modifyPort_same (f := fun p => { p with receiver := r }) src fun _ => ⟨rfl, rfl, rfl, rfl, rfl⟩

theorem withPending {s : State} (h : s.portsConsistent) (x : List Instr) : (s.withPending x).portsConsistent := h
theorem withQm {s : State} (h : s.portsConsistent) (x : QueueManager) : (s.withQm x).portsConsistent := h
theorem withSl {s : State} (h : s.portsConsistent) (x : SongLoader) : (s.withSl x).portsConsistent := h
theorem withSc {s : State} (h : s.portsConsistent) (x : StageController) : (s.withSc x).portsConsistent := h
theorem withPt {s : State} (h : s.portsConsistent) (x : PitchTracker) : (s.withPt x).portsConsistent := h
theorem withSu {s : State} (h : s.portsConsistent) (x : ScoreUnit) : (s.withSu x).portsConsistent := h
theorem withLr {s : State} (h : s.portsConsistent) (x : LyricRenderer) : (s.withLr x).portsConsistent := h
theorem withTu {s : State} (h : s.portsConsistent) (x : TickerUnit) : (s.withTu x).portsConsistent := h
theorem withVc {s : State} (h : s.portsConsistent) (x : VideoCompositor) : (s.withVc x).portsConsistent := h
theorem withPs {s : State} (h : s.portsConsistent) (x : ProfileStore) : (s.withPs x).portsConsistent := h

/-- A state with the same port records. -/
theorem congr {s t : State} (h : s.portsConsistent) (same : t.ports = s.ports) : t.portsConsistent := by
  unfold State.portsConsistent State.port at h ⊢
  rwa [same]

theorem loadDone {s : State} (h : s.portsConsistent) (e : LoadEnd) : (s.loadDone e).portsConsistent := by
  unfold State.loadDone
  split
  · exact h
  · exact h.raisePlayer _

theorem stageChangedIf {s : State} (h : s.portsConsistent) (b : Bool) : (s.stageChangedIf b).portsConsistent := by
  unfold State.stageChangedIf
  split
  · exact h.raiseAll _
  · exact h

theorem dropSlots {s : State} (h : s.portsConsistent) (test : Slot → Bool) : (s.dropSlots test).portsConsistent := by
  unfold State.dropSlots
  split
  · exact (h.withSl _).answer _ _ _
  · exact h

theorem applyDrop {s : State} (h : s.portsConsistent) (d : SlotDrop) : (s.applyDrop d).portsConsistent := by
  cases d with
  | none => exact h
  | lost t => exact (h.dropSlots _).raisePlayer _
  | given t => exact h.dropSlots _

theorem noteChange {s : State} (h : s.portsConsistent) (q : QueueManager) : (s.noteChange q).portsConsistent := by
  unfold State.noteChange
  split
  · exact h
  · exact h.raiseAll .queueChanged

theorem arbitrate {s : State} (h : s.portsConsistent) : s.arbitrate.portsConsistent := h.congr s.arbitrate_ports

theorem arrive {s : State} (h : s.portsConsistent) (op : Operation) : (s.arrive op).portsConsistent :=
  h.congr (s.arrive_ports op)

theorem finish {s : State} (h : s.portsConsistent) (src : Source) (c : Command) (o : Outcome) :
    (s.finish src c o).portsConsistent :=
  ((((h.withQm _).applyDrop _).noteChange _).answer _ _ _).arbitrate

theorem finishNotice {s : State} (h : s.portsConsistent) (q : QueueManager) {slots : State → State} (c : Confirmation)
    (drops : ∀ t : State, t.portsConsistent → (slots t).portsConsistent) :
    (s.finishNotice q slots c).portsConsistent :=
  ((drops _ (h.withQm _)).noteChange _).arbitrate

theorem answerStop {s : State} (h : s.portsConsistent) : s.answerStop.portsConsistent := by
  unfold State.answerStop
  split
  · exact h.answer _ _ _
  · exact h

theorem showResult {s : State} (h : s.portsConsistent) : s.showResult.portsConsistent := by
  obtain ⟨-, he⟩ | ⟨-, -, he⟩ | ⟨-, -, he⟩ := s.showResult_cases <;> rw [he]
  · exact h
  · exact ((h.withSc _).withLr _).raiseAll _
  · exact h

theorem setTime {s : State} (h : s.portsConsistent) (t : Nat) : (s.setTime t).portsConsistent := by
  unfold State.setTime
  split <;> exact h

theorem finalise {s : State} (h : s.portsConsistent) (kind : EndKind) : (s.finalise kind).portsConsistent :=
  h.congr (by simp [State.finalise])

theorem beginReset {s : State} (h : s.portsConsistent) : s.beginReset.portsConsistent :=
  h.congr (by simp [State.beginReset])

theorem endIf {s : State} (h : s.portsConsistent) (b : Bool) : (s.endIf b).portsConsistent := by
  unfold State.endIf
  split
  · exact h.finalise _
  · exact h

theorem endResult {s : State} (h : s.portsConsistent) : s.endResult.portsConsistent :=
  ((h.withSc _).withLr _).raiseAll .stageChanged

theorem fitZones {s : State} (h : s.portsConsistent) : s.fitZones.portsConsistent := by
  unfold State.fitZones
  dsimp only
  split
  · exact h
  · exact (h.withPs _).raiseAll _

theorem frameStart {s : State} (h : s.portsConsistent) (size : Option (Nat × Nat)) :
    (s.frameStart size).portsConsistent := by
  have fitted : (s.withVc (s.vc.resize size)).fitZones.portsConsistent := (h.withVc _).fitZones
  exact fitted.congr (by simp [State.frameStart])

theorem micClip {s : State} (h : s.portsConsistent) (l : Lane) (all : List StereoSample) :
    (s.micClip l all).portsConsistent := by
  unfold State.micClip
  split
  · exact h.raiseAll _
  · exact h

theorem sample {s : State} (h : s.portsConsistent) (x : StereoSample) : (s.sample x).portsConsistent := by
  unfold State.sample
  dsimp only
  split
  · exact h
  · exact (h.micClip _ _).micClip _ _

theorem endSave {s : State} (h : s.portsConsistent) (matched : Bool) : (s.endSave matched).portsConsistent := by
  unfold State.endSave
  split
  · exact h
  · split <;> exact (h.withPs _).answer _ _ _

/-- A byte of the Player: the transaction goes on with what it reads first, and a reply sent whole is delivered. -/
theorem clockByte {s : State} (h : s.portsConsistent) (b : Byte) : (s.clockByte b).portsConsistent := by
  unfold State.clockByte
  split
  · exact h
  · refine h.transaction fun pl left ht => ?_
    unfold Port.selected at ht
    split at ht
    · cases ht
    · split at ht
      · split at ht
        · next k r waiting =>
          simp only [Port.waiting, Option.bind_eq_some_iff, Option.map_eq_some_iff] at waiting
          obtain ⟨j, hj, q, hq, e⟩ := waiting
          obtain ⟨rfl, rfl⟩ := Prod.mk.inj e
          obtain ⟨rfl, rfl⟩ := Transaction.reading.inj (Option.some.inj ht)
          exact ⟨hj, by simp [Reply.bytes]⟩
        · cases ht
      · cases ht
  · exact h.transaction fun _ _ ht => nomatch ht
  · next pl x y rest tr =>
    refine h.transaction fun k left ht => ?_
    obtain ⟨rfl, rfl⟩ := Transaction.reading.inj (Option.some.inj ht)
    exact ⟨(h.2.2.1 _ _ tr).1, by simp⟩
  · next pl x tr =>
    have shifted : (s.shift [x] .spent).portsConsistent := h.transaction fun _ _ ht => nomatch ht
    refine shifted.modifyPort .player ?_ (fun _ => ⟨fun _ _ ht => (nomatch ht), ?_⟩) fun hp => absurd rfl hp
    · exact Port.consistent_deliver (shifted.1 .player) shifted.2.2.2
    · cases pl <;> exact shifted.2.2.2
  · exact h.transaction fun _ _ ht => nomatch ht
  · exact h.transaction fun _ _ ht => nomatch ht
  · exact h.transaction fun _ _ ht => nomatch ht

theorem selectFalls {s : State} (h : s.portsConsistent) : s.selectFalls.portsConsistent := by
  unfold State.selectFalls
  split
  · exact h.transaction fun _ _ ht => nomatch ht
  · exact h

theorem send {s : State} (h : s.portsConsistent) (panel : Panel) (n : Nat) :
    (s.modifyPort panel.source fun p => p.send n).portsConsistent := by
  have sent := Port.consistent_send (h.1 panel.source) (h.2.1 panel) n
  exact h.modifyPort _ sent.1 (fun hp => absurd hp (panel_source_ne_player panel)) fun _ => sent.2

end State.portsConsistent

theorem Port.consistent_abandon (p : Port) : p.abandon.consistent ∧ p.abandon.sendsAtOnce :=
  ⟨⟨by simp [Port.abandon], by simp [Port.abandon], fun _ h => (nomatch h), fun _ h => nomatch h⟩, fun _ => rfl⟩

theorem Port.consistent_afterReset (rights : BitVec 4) (mask : BitVec 12) :
    (Port.afterReset rights mask).consistent ∧ (Port.afterReset rights mask).sendsAtOnce :=
  ⟨⟨by simp [Port.afterReset], by simp [Port.afterReset], fun _ h => (nomatch h), fun _ h => nomatch h⟩, fun _ => rfl⟩

theorem State.portsConsistent_atEndOfReset (copy : Option Profile) : (State.atEndOfReset copy).portsConsistent := by
  refine ⟨fun src => ?_, fun panel => ?_, fun _ _ h => (nomatch h), rfl⟩
  · cases src <;> exact (Port.consistent_afterReset _ _).1
  · cases panel <;> exact (Port.consistent_afterReset _ _).2

/-! ### Every move -/

theorem Work.portsConsistent {src : Source} {c : Command} {s t : State} (h : Work src c s t) (hs : s.portsConsistent) :
    t.portsConsistent := by
  cases h with
  | answered => exact hs.answer _ _ _
  | edit | takeNext => exact hs.arrive _
  | loadOpen | loadAbort => exact (hs.withSl _).answer _ _ _
  | glyphLoad => exact ((hs.withLr _).withTu _).answer _ _ _
  | idleText => exact (hs.withTu _).answer _ _ _
  | zones | profileSet => exact (hs.withPs _).answer _ _ _
  | loadData | profileSave => exact hs
  | loadClose =>
    exact (((hs.withSl _).loadDone _).answer _ _ _)
  | start => exact (hs.withSc _).arrive _
  | pause | resume => exact ((hs.withSc _).raiseAll _).answer _ _ _
  | stop => exact hs.finalise _
  | sync => exact ((hs.setTime _).endIf _).answer _ _ _
  | key | tempo => exact ((hs.withSc _).stageChangedIf _).answer _ _ _
  | skipResult => exact hs.endResult.answer _ _ _
  | stageReset => exact hs.beginReset
  | rights s panel m => exact (hs.withRights panel.source m).answer _ _ _
  | events => exact (hs.withEvents src 0#12).answer _ _ _
  | mask s m => exact (hs.withMask src m).answer _ _ _

theorem Move.portsConsistent {i : Instr} {s t : State} (h : Move i s t) (hs : s.portsConsistent) : t.portsConsistent := by
  cases h with
  | handled src t h =>
    cases h with
    | nothing => exact hs
    | refused => exact hs.refuse _ _ _
    | routed c t taken work => exact work.portsConsistent (hs.route taken)
  | receive panel r => exact hs.receive panel.source r
  | send => exact hs.send _ _
  | shiftOut => exact hs.transaction hs.2.2.1
  | selectFalls => exact hs.selectFalls
  | clockByte => exact hs.clockByte _
  | selectEnds => exact hs.transaction fun _ _ ht => nomatch ht
  | editEnd | takeNextEnd => exact hs.finish _ _ _
  | startEnd | startLost => exact hs.finishNotice _ _ fun _ h => h
  | retireEnd | resetEnd => exact hs.finishNotice _ _ fun _ h => h.dropSlots _
  | loadDataEnd => exact ((hs.withSl _).loadDone _).answer _ _ _
  | startConfirmed =>
    exact ((((hs.withQm _).withSc _).withSu _).withLr _ |>.raiseAll _).answer _ _ _
  | cueLost => exact ((hs.withQm _).withSc _).answer _ _ _
  | retireConfirmed =>
    exact ((((hs.withQm _).withSc _).showResult).raiseAll _).answerStop
  | resetConfirmed => exact (((hs.withQm _).withSc _).raiseAll _).answer _ _ _
  | advance | hold | measure | received => exact hs
  | finalise => exact hs.finalise _
  | endResult => exact hs.endResult
  | raise => exact hs.raiseAll _
  | frameStart => exact hs.frameStart _
  | sample => exact hs.sample _
  | saveEnd => exact hs.endSave _
  | resetBegins =>
    refine ⟨fun src => ?_, fun panel => ?_, fun _ _ h => (nomatch h), rfl⟩
    · cases src <;> exact (Port.consistent_abandon _).1
    · cases panel <;> exact (Port.consistent_abandon _).2
  | resetEnds => exact (State.portsConsistent_atEndOfReset s.ps.nonvolatile).congr rfl

/-- Settles O6: every move keeps the port records consistent. -/
theorem portsStayConsistent : Obligations.PortsStayConsistent := by
  unfold Obligations.PortsStayConsistent
  exact fun s t hs run => step_keeps (fun _ _ h => h) (fun _ _ _ m h => m.portsConsistent h) run hs

/-! ### What an answer and a refusal leave (R157, R162) -/

theorem State.modifyPort_withPorts (s : State) (src : Source) (f : Port → Port) :
    (s.modifyPort src f).withPorts s.ports = s := rfl

/-- A reply in a place of a port whose other replies stand as they were. -/
theorem Port.beginSending_fill {p : Port} (atOnce : p.sendsAtOnce) (pl : Place) (r : Reply) :
    (∀ x, p.transmitter = some x → (p.fill pl r).beginSending = p.fill pl r)
      ∧ (p.transmitter = none →
          (p.fill pl r).beginSending = { p.fill pl r with transmitter := some ⟨pl, panelWire r.bytes⟩ }) := by
  refine ⟨fun x hx => ?_, fun idle => ?_⟩
  · cases pl <;> simp [Port.beginSending, Port.fill, Port.setPlace, hx]
  · have nothing := atOnce idle
    cases pl <;> simp [Port.beginSending, Port.fill, Port.setPlace, Port.place, idle, nothing]

end Sys2Proof.Machine
end

section
/-! PROOFS. The applied queue (R10): which moves reach it, and by which operation of the QM. Every property of the queue, the
roster, the history and the ticket counter is then a property of those operations. -/

namespace Sys2Proof.Machine

/-! ### The same applied queue -/

theorem QueueManager.sameApplied.refl (q : QueueManager) : q.sameApplied q := ⟨rfl, rfl, rfl, rfl⟩

theorem QueueManager.sameApplied.trans {p q r : QueueManager} (h : p.sameApplied q) (k : q.sameApplied r) :
    p.sameApplied r := by
  obtain ⟨queue, roster, history, counter⟩ := h
  obtain ⟨queue', roster', history', counter'⟩ := k
  exact ⟨queue.trans queue', roster.trans roster', history.trans history', counter.trans counter'⟩

theorem QueueManager.sameApplied.of_eq {q r : QueueManager} (h : q = r) : q.sameApplied r := h ▸ .refl q

/-- The end of an edit or TAKE-NEXT leaves the applied queue of its outcome. -/
theorem State.finish_sameApplied (s : State) (src : Source) (c : Command) (o : Outcome) :
    (s.finish src c o).qm.sameApplied o.qm :=
  (State.arbitrate_sameApplied _).trans (.of_eq (by simp))

/-- The end of a notice leaves the applied queue it is given. -/
theorem State.finishNotice_sameApplied (s : State) (q : QueueManager) {slots : State → State} (c : Confirmation)
    (same : ∀ t : State, (slots t).qm = t.qm) : (s.finishNotice q slots c).qm.sameApplied q := by
  refine (State.arbitrate_sameApplied _).trans ?_
  rw [State.noteChange_qm, same]
  exact ⟨rfl, rfl, rfl, rfl⟩

theorem State.finish_toStage (s : State) (src : Source) (c : Command) (o : Outcome) :
    (s.finish src c o).qm.toStage = o.qm.toStage := by
  simp [State.finish, State.arbitrate_toStage]

theorem State.finishNotice_toStage (s : State) (q : QueueManager) {slots : State → State} (c : Confirmation)
    (same : ∀ t : State, (slots t).qm = t.qm) : (s.finishNotice q slots c).qm.toStage = q.toStage ++ [c] := by
  simp [State.finishNotice, State.arbitrate_toStage, same]

/-! ### The operations of the QM -/

/-- What an operation makes of the QM it finds at its end (R13 to R23, R35 to R39). -/
inductive Applied (q : QueueManager) : QueueManager → Prop
  | edit (f : InFlight) (src : Source) (e : Edit) : Applied q (q.applyEdit f src e).qm
  | takeNext : Applied q q.applyTakeNext.qm
  | start (e : Entry) (cued : cuedEntry q.queue = some e) :
      Applied q { q with queue := updateTicket q.queue e.ticket (fun _ => { e with state := .playing }) }
  | retire (kind : EndKind) (time : Nat) (lanes : PerLane Finals) : Applied q (q.retire kind time lanes)
  | abandon (time : Nat) : Applied q (q.abandon time)

theorem Work.sameApplied {src : Source} {c : Command} {s t : State} (h : Work src c s t) : t.qm.sameApplied s.qm := by
  cases h with
  | edit | takeNext => exact State.arrive_sameApplied _ _
  | start => exact (State.arrive_sameApplied _ _).trans (.refl _)
  | stop => exact (State.arrive_sameApplied _ _).trans (.refl _)
  | stageReset => exact (State.arrive_sameApplied _ _).trans (.refl _)
  | sync s time ended a song =>
    have timed : (s.setTime time).qm = s.qm := by simp [State.setTime]
    rw [State.answer_qm, State.endIf]
    split
    · exact (State.arrive_sameApplied _ _).trans (.of_eq (by simpa using timed))
    · exact .of_eq timed
  | _ => exact .of_eq (by simp [State.loadDone, State.stageChangedIf, State.endResult])

theorem Handled.sameApplied {src : Source} {s t : State} (h : Handled src s t) : t.qm.sameApplied s.qm := by
  cases h with
  | nothing => exact .refl _
  | refused => exact .of_eq (by simp)
  | routed c t taken work => exact work.sameApplied

/-- Every move leaves the applied queue, or is the end of an operation and leaves what the operation makes of it, or is the
end of reset. -/
theorem Move.applied {i : Instr} {s t : State} (h : Move i s t) :
    t.qm.sameApplied s.qm
      ∨ (endsOperation i = true ∧ ∃ q, Applied s.qm q ∧ t.qm.sameApplied q)
      ∨ (endsOperation i = true ∧ t.qm = QueueManager.afterReset) := by
  cases h with
  | handled src t h => exact .inl h.sameApplied
  | selectFalls => obtain ⟨p, h⟩ := s.selectFalls_withPorts; exact .inl (.of_eq (by simp [h]))
  | clockByte b => obtain ⟨p, h⟩ := s.clockByte_withPorts b; exact .inl (.of_eq (by simp [h]))
  | editEnd item rights threshold row =>
    have ends : endsOperation i = true := by cases i <;> simp_all [endOf, endsOperation]
    exact .inr (.inl ⟨ends, _, .edit _ _ _, State.finish_sameApplied _ _ _ _⟩)
  | takeNextEnd _ _ row => exact .inr (.inl ⟨row ▸ rfl, _, .takeNext, State.finish_sameApplied _ _ _ _⟩)
  | startEnd e row _ cued =>
    exact .inr (.inl ⟨row ▸ rfl, _, .start e cued, State.finishNotice_sameApplied _ _ _ fun _ => rfl⟩)
  | startLost => exact .inl (State.finishNotice_sameApplied _ _ _ fun _ => rfl)
  | retireEnd kind time lanes row =>
    exact .inr (.inl ⟨row ▸ rfl, _, .retire kind time lanes, State.finishNotice_sameApplied _ _ _ fun _ => by simp⟩)
  | resetEnd time row =>
    exact .inr (.inl ⟨row ▸ rfl, _, .abandon time, State.finishNotice_sameApplied _ _ _ fun _ => by simp⟩)
  | retireConfirmed rest =>
    obtain ⟨p, stop⟩ := State.answerStop_withPorts
      (((((s.withQm { s.qm with toStage := rest }).withSc { s.sc with endTime := none }).showResult).raiseAll .songEnded))
    rw [stop]
    obtain ⟨-, h⟩ | ⟨-, -, h⟩ | ⟨-, -, h⟩ := State.showResult_cases
      ((s.withQm { s.qm with toStage := rest }).withSc { s.sc with endTime := none }) <;>
    · refine .inl ?_
      rw [State.withPorts_qm, State.raiseAll_qm, h]
      exact ⟨rfl, rfl, rfl, rfl⟩
  | startConfirmed | cueLost | resetConfirmed => exact .inl ⟨rfl, rfl, rfl, rfl⟩
  | finalise => exact .inl ((State.arrive_sameApplied _ _).trans (.refl _))
  | saveEnd _ matched saving => obtain ⟨p, q, h, -⟩ := s.endSave_withPs matched saving; exact .inl (.of_eq (by simp [h]))
  | resetBegins => exact .inl ⟨rfl, rfl, rfl, rfl⟩
  | resetEnds row => exact .inr (.inr ⟨row ▸ rfl, rfl⟩)
  | _ =>
    exact .inl (.of_eq (by
      simp [State.receive, State.shiftOut, State.loadDone, State.endResult, State.frameStart, State.sample, State.micClip]))

/-- Settles O13: the moves of a row that ends no operation leave the applied queue. -/
theorem appliedQueueChangesOnlyAtEnds : Obligations.AppliedQueueChangesOnlyAtEnds := by
  unfold Obligations.AppliedQueueChangesOnlyAtEnds
  intro c s t ends run
  refine exec_keeps (P := fun u => u.qm.sameApplied s.qm) (fun u v move kept => ?_) run (.refl _)
  obtain same | ⟨yes, -⟩ | ⟨yes, -⟩ := move.applied
  · exact same.trans kept
  · rw [ends] at yes; cases yes
  · rw [ends] at yes; cases yes

/-- A property of the applied queue that every operation keeps, and that the queue has after reset, is kept by every step. -/
theorem step_keeps_applied {P : QueueManager → Prop} (same : ∀ q r : QueueManager, q.sameApplied r → P r → P q)
    (applied : ∀ q r, Applied q r → P q → P r) (reset : P QueueManager.afterReset) {s t : State}
    (run : step s = .next t) (hs : P s.qm) : P t.qm := by
  refine step_keeps (P := fun u => P u.qm) (fun _ _ h => h) (fun i u v move kept => ?_) run hs
  obtain h | ⟨-, q, op, h⟩ | ⟨-, h⟩ := move.applied
  · exact same _ _ h kept
  · exact same _ _ h (applied _ _ op kept)
  · rw [h]; exact reset

end Sys2Proof.Machine
end

section
/-! PROOFS. What the operations of the QM do to the queue, said once: each is a run of steps, and a step updates, moves, enters,
removes, clears, returns or takes entries. The invariants of the queue are then properties of the steps. -/

namespace Sys2Proof.Machine

/-! ### Requesters and entries (R1, R2) -/

/-- The requesters of an entry that is sound (R2). -/
def requestersSound (rs : List Requester) : Prop :=
  rs ≠ [] ∧ (rs.map (fun r => r.source)).Nodup ∧ ∀ r ∈ rs, 1 ≤ r.votes ∧ r.votes ≤ 15

theorem Entry.sound_iff (e : Entry) : e.sound ↔ requestersSound e.requesters ∧ pitchAndPace e.startKey e.tempo := by
  simp [Entry.sound, requestersSound, and_assoc]

theorem requestersSound_single (src : Source) : requestersSound [⟨src, 1⟩] := by
  simp [requestersSound]

/-- Votes that join a source's own, stopping at 15. -/
theorem requestersSound_joined {rs : List Requester} (h : requestersSound rs) (src : Source) (n : Nat) :
    requestersSound
      (rs.map (fun r => if r.source = src then { r with votes := min Config.maxVotes (r.votes + n) } else r)) := by
  obtain ⟨some, sources, votes⟩ := h
  refine ⟨by simpa using some, ?_, fun r hr => ?_⟩
  · have same : (fun r : Requester => r.source) ∘
        (fun r => if r.source = src then { r with votes := min Config.maxVotes (r.votes + n) } else r)
          = fun r => r.source := by
      funext r
      by_cases hs : r.source = src <;> simp [hs]
    rwa [List.map_map, same]
  · obtain ⟨k, hk, rfl⟩ := List.mem_map.1 hr
    have := votes k hk
    split
    · simp only [Config.maxVotes]; omega
    · exact this

/-- A pair of a new source appended. -/
theorem requestersSound_appended {rs : List Requester} (h : requestersSound rs) {r : Requester}
    (new : rs.any (fun k => k.source == r.source) = false) (votes : 1 ≤ r.votes ∧ r.votes ≤ 15) :
    requestersSound (rs ++ [r]) := by
  obtain ⟨-, sources, all⟩ := h
  have other : ∀ k ∈ rs, k.source ≠ r.source := by simpa using new
  refine ⟨by simp, ?_, ?_⟩
  · rw [List.map_append, List.nodup_append]
    refine ⟨sources, by simp, fun a ha b hb => ?_⟩
    obtain ⟨k, hk, rfl⟩ := List.mem_map.1 ha
    obtain rfl : b = r.source := by simpa using hb
    exact other k hk
  · intro k hk
    obtain hk | hk := List.mem_append.1 hk
    · exact all k hk
    · obtain rfl : k = r := by simpa using hk
      exact votes

theorem requestersSound_voteFor {rs : List Requester} (h : requestersSound rs) (src : Source) :
    requestersSound (voteFor rs src) := by
  unfold voteFor
  split
  · exact requestersSound_joined h src 1
  · next new => exact requestersSound_appended h (by simpa using new) (by simp)

theorem requestersSound_absorbPair {rs : List Requester} (h : requestersSound rs) {r : Requester}
    (votes : 1 ≤ r.votes ∧ r.votes ≤ 15) : requestersSound (absorbPair rs r) := by
  unfold absorbPair
  split
  · exact requestersSound_joined h r.source r.votes
  · next new => exact requestersSound_appended h (by simpa using new) votes

theorem requestersSound_foldl {rs ks : List Requester} (h : requestersSound rs)
    (votes : ∀ r ∈ ks, 1 ≤ r.votes ∧ r.votes ≤ 15) : requestersSound (ks.foldl absorbPair rs) := by
  induction ks generalizing rs with
  | nil => exact h
  | cons k ks ih =>
    exact ih (requestersSound_absorbPair h (votes k List.mem_cons_self)) fun r hr => votes r (List.mem_cons_of_mem _ hr)

theorem requestersSound_filter {rs : List Requester} (h : requestersSound rs) (p : Requester → Bool)
    (some : (rs.filter p).isEmpty = false) : requestersSound (rs.filter p) :=
  ⟨fun none => by simp [none] at some, h.2.1.sublist (List.filter_sublist.map _),
    fun r hr => h.2.2 r (List.mem_filter.1 hr).1⟩

theorem Entry.sound_absorb {e a : Entry} (he : e.sound) (ha : a.sound) : (e.absorb a).sound := by
  obtain ⟨requesters, settings⟩ := (Entry.sound_iff e).1 he
  exact (Entry.sound_iff _).2 ⟨requestersSound_foldl requesters ((Entry.sound_iff a).1 ha).1.2.2, settings⟩

theorem pitchAndPace_clamp (key : Int) (tempo : Nat) : pitchAndPace (clampInt (-6) 6 key) (clampNat 85 115 tempo) := by
  unfold pitchAndPace clampInt clampNat
  omega

theorem QueueManager.sound_freshEntry (q : QueueManager) (f : InFlight) (src : Source) (p : AddParams) :
    (q.freshEntry f src p).sound :=
  (Entry.sound_iff _).2 ⟨requestersSound_single src, pitchAndPace_clamp _ _⟩

/-! ### The steps -/

/-- An entry that stands where another stood: the same ticket, song and class, and the same state or another in which it waits. -/
structure Entry.StandsAs (e' e : Entry) : Prop where
  ticket : e'.ticket = e.ticket
  song : e'.song = e.song
  cls : e'.cls = e.cls
  state : e'.state = e.state ∨ (e.waits = true ∧ e'.waits = true)
  sound : e.sound → e'.sound

/-- A waiting entry joins a section at one of its ends (R3). -/
inductive Joins (q : List Entry) (e : Entry) : List Entry → Prop
  | priorityHead (cls : e.cls = .priority) : Joins q e (joinPriorityHead q e)
  | priorityTail : Joins q e (joinPriorityTail q e)
  | normalTail (cls : e.cls = .normal) : Joins q e (joinNormalTail q e)

/-- What a step makes of the queue. -/
inductive Reshaped (q : List Entry) : List Entry → Prop
  | updated (e e' : Entry) (mem : e ∈ q) (as : e'.StandsAs e) : Reshaped q (updateTicket q e.ticket (fun _ => e'))
  | moved (e e' : Entry) (l : List Entry) (mem : e ∈ q) (waits : e.waits = true) (waits' : e'.waits = true)
      (ticket : e'.ticket = e.ticket) (song : e'.song = e.song) (sound : e.sound → e'.sound)
      (joins : Joins (removeTicket q e.ticket) e' l) : Reshaped q l
  | removed (e : Entry) (mem : e ∈ q) : Reshaped q (removeTicket q e.ticket)
  | cleared : Reshaped q (q.filter (fun e => !e.waits))
  | unnamed (n : Nat) : Reshaped q (q.map (fun e => e.without n))
  | returned (c : Entry) (cued : cuedEntry q = some c) : Reshaped q (returnCued q c)
  | taken (e : Entry) (free : cuedEntry q = none) (first : candidate q = some e) :
      Reshaped q (joinAfterPlaying (removeTicket q e.ticket) { e with state := .cued })
  | begun (e : Entry) (cued : cuedEntry q = some e) :
      Reshaped q (updateTicket q e.ticket (fun _ => { e with state := .playing }))

/-- A step of an operation of the QM. -/
inductive QueueStep (q : QueueManager) : QueueManager → Prop
  | queue (l : List Entry) (h : Reshaped q.queue l) : QueueStep q { q with queue := l }
  | roster (v : Vector (Option Singer) 16) : QueueStep q { q with roster := v }
  | entered (e : Entry) (l : List Entry) (room : q.queue.length < 40) (ticket : e.ticket = q.newTicket)
      (new : waitingSong q.queue e.song = none) (waits : e.waits = true) (sound : e.sound) (joins : Joins q.queue e l) :
      QueueStep q { q with queue := l, ticketCounter := nextTicket e.ticket }
  | retired (e : Entry) (r : HistoryRecord) (playing : playingEntry q.queue = some e) (ticket : r.ticket = e.ticket) :
      QueueStep q { q with queue := removeTicket q.queue e.ticket, history := fileRecord q.history r }

/-- A run of steps. -/
abbrev QueueSteps : QueueManager → QueueManager → Prop := Relation.ReflTransGen QueueStep

theorem QueueSteps.one {q r : QueueManager} (h : QueueStep q r) : QueueSteps q r := Relation.ReflTransGen.single h

/-! ### Each operation as a run of steps -/

theorem mem_of_waitingSong {q : List Entry} {song : Nat} {e : Entry} (h : waitingSong q song = some e) :
    e ∈ q ∧ e.waits = true ∧ e.song = song := by
  have found := List.find?_some h
  simp only [Bool.and_eq_true, beq_iff_eq] at found
  exact ⟨List.mem_of_find?_eq_some h, found⟩

theorem QueueManager.sound_votedEntry (q : QueueManager) (src : Source) (p : AddParams) {e : Entry} (he : e.sound) :
    (q.votedEntry src p e).sound := by
  obtain ⟨requesters, settings⟩ := (Entry.sound_iff e).1 he
  exact (Entry.sound_iff _).2 ⟨requestersSound_voteFor requesters src, settings⟩

theorem QueueManager.enter_steps (q : QueueManager) (f : InFlight) (src : Source) (p : AddParams)
    (new : waitingSong q.queue p.song = none) : QueueSteps q (q.enter f src p).qm := by
  unfold QueueManager.enter
  split
  · exact .refl
  · next room =>
    refine .one (.entered (q.freshEntry f src p) _ (Nat.lt_of_not_le room) rfl new rfl (q.sound_freshEntry f src p) ?_)
    split
    · exact .priorityTail
    · next h =>
      refine .normalTail ?_
      cases hc : (q.freshEntry f src p).cls with
      | normal => rfl
      | priority => exact absurd hc h

theorem QueueManager.applyAdd_steps (q : QueueManager) (f : InFlight) (src : Source) (p : AddParams) :
    QueueSteps q (q.applyAdd f src p).qm := by
  cases h : waitingSong q.queue p.song with
  | none =>
    rw [QueueManager.applyAdd, h]
    exact q.enter_steps f src p h
  | some e =>
    obtain ⟨mem, waits, -⟩ := mem_of_waitingSong h
    rw [QueueManager.applyAdd_waiting f src h rfl rfl rfl rfl]
    refine .one (.queue _ ?_)
    split
    · exact .moved e { q.votedEntry src p e with cls := .priority } _ mem waits waits rfl rfl
        (fun he => q.sound_votedEntry src p he) .priorityTail
    · exact .updated e _ mem ⟨rfl, rfl, rfl, .inl rfl, fun he => q.sound_votedEntry src p he⟩

theorem QueueManager.applyWithdraw_steps (q : QueueManager) (f : InFlight) (src : Source) (ticket : Nat) :
    QueueSteps q (q.applyWithdraw f src ticket).qm := by
  unfold QueueManager.applyWithdraw
  split
  · exact .refl
  · next e found =>
    obtain ⟨mem, rfl⟩ := ticket_of_findTicket found
    have gone : QueueSteps q { q with queue := removeTicket q.queue e.ticket } := .one (.queue _ (.removed e mem))
    split
    · exact .refl
    · split
      · dsimp only
        split
        · exact gone
        · next kept =>
          refine .one (.queue _ (.updated e _ mem ⟨rfl, rfl, rfl, .inl rfl, fun he => ?_⟩))
          obtain ⟨requesters, settings⟩ := (Entry.sound_iff e).1 he
          exact (Entry.sound_iff _).2 ⟨requestersSound_filter requesters _ (by simpa using kept), settings⟩
      · split
        · exact gone
        · exact .refl

theorem QueueManager.applyHold_steps (q : QueueManager) (src : Source) (ticket : Nat) :
    QueueSteps q (q.applyHold src ticket).qm := by
  unfold QueueManager.applyHold
  split
  · exact .refl
  · next e found =>
    obtain ⟨mem, rfl⟩ := ticket_of_findTicket found
    split
    · exact .refl
    · next state =>
      have waits : e.waits = true := by simp_all [Entry.waits]
      split
      · exact .one (.queue _ (.updated e _ mem ⟨rfl, rfl, rfl, .inr ⟨waits, rfl⟩, id⟩))
      · exact .refl

theorem QueueManager.applyRelease_steps (q : QueueManager) (src : Source) (ticket : Nat) :
    QueueSteps q (q.applyRelease src ticket).qm := by
  unfold QueueManager.applyRelease
  split
  · exact .refl
  · next e found =>
    obtain ⟨mem, rfl⟩ := ticket_of_findTicket found
    split
    · exact .refl
    · next state =>
      have waits : e.waits = true := by simp_all [Entry.waits]
      split
      · exact .one (.queue _ (.updated e _ mem ⟨rfl, rfl, rfl, .inr ⟨waits, rfl⟩, id⟩))
      · exact .refl

theorem QueueManager.applyMove_steps (q : QueueManager) (f : InFlight) (src : Source) (ticket : Nat) (cls : EntryClass)
    {join : List Entry → Entry → List Entry} (joins : ∀ l e, e.cls = cls → Joins l e (join l e)) :
    QueueSteps q (q.applyMove f src ticket cls join).qm := by
  unfold QueueManager.applyMove
  split
  · exact .refl
  · split
    · exact .refl
    · next e found =>
      obtain ⟨mem, rfl⟩ := ticket_of_findTicket found
      split
      · next waits => exact .one (.queue _ (.moved e { e with cls := cls } _ mem waits waits rfl rfl id (joins _ _ rfl)))
      · exact .refl

theorem QueueManager.applySingerAdd_steps (q : QueueManager) (src : Source) (name : List Nat) :
    QueueSteps q (q.applySingerAdd src name).qm := by
  unfold QueueManager.applySingerAdd
  split
  · exact .refl
  · split
    · exact .one (.roster _)
    · exact .refl

theorem QueueManager.applySingerDrop_steps (q : QueueManager) (src : Source) (n : Nat) :
    QueueSteps q (q.applySingerDrop src n).qm := by
  unfold QueueManager.applySingerDrop
  split
  · exact .refl
  · split
    · exact (QueueSteps.one (.roster _)).tail (.queue _ (.unnamed n))
    · exact .refl

theorem QueueManager.applyUncue_steps (q : QueueManager) : QueueSteps q q.applyUncue.qm := by
  unfold QueueManager.applyUncue
  split
  · exact .refl
  · exact .one (.queue _ (.returned _ ‹_›))

theorem QueueManager.applyTakeNext_steps (q : QueueManager) : QueueSteps q q.applyTakeNext.qm := by
  unfold QueueManager.applyTakeNext
  split
  · exact .refl
  · next free =>
    split
    · exact .refl
    · exact .one (.queue _ (.taken _ (by simpa using free) ‹_›))

theorem QueueManager.applyEdit_steps (q : QueueManager) (f : InFlight) (src : Source) (e : Edit) :
    QueueSteps q (q.applyEdit f src e).qm := by
  cases e with
  | add p => exact q.applyAdd_steps f src p
  | withdraw t => exact q.applyWithdraw_steps f src t
  | hold t => exact q.applyHold_steps src t
  | release t => exact q.applyRelease_steps src t
  | raise t => exact q.applyMove_steps f src t .priority fun _ _ h => .priorityHead h
  | lower t => exact q.applyMove_steps f src t .normal fun _ _ h => .normalTail h
  | uncue => exact q.applyUncue_steps
  | clearQueue => exact .one (.queue _ .cleared)
  | singerAdd name => exact q.applySingerAdd_steps src name
  | singerDrop n => exact q.applySingerDrop_steps src n

theorem QueueManager.retire_steps (q : QueueManager) (kind : EndKind) (time : Nat) (lanes : PerLane Finals) :
    QueueSteps q (q.retire kind time lanes) := by
  unfold QueueManager.retire
  split
  · exact .refl
  · exact .one (.retired _ _ ‹_› rfl)

theorem QueueManager.abandon_steps (q : QueueManager) (time : Nat) : QueueSteps q (q.abandon time) := by
  have retired := q.retire_steps .aborted time ⟨Finals.abandoned, Finals.abandoned⟩
  unfold QueueManager.abandon
  dsimp only
  split
  · exact retired
  · exact retired.tail (.queue _ (.returned _ ‹_›))

theorem Applied.steps {q r : QueueManager} (h : Applied q r) : QueueSteps q r := by
  cases h with
  | edit f src e => exact q.applyEdit_steps f src e
  | takeNext => exact q.applyTakeNext_steps
  | start e cued => exact .one (.queue _ (.begun e cued))
  | retire kind time lanes => exact q.retire_steps kind time lanes
  | abandon time => exact q.abandon_steps time

/-- A property of the applied queue that each step of an operation keeps, and that the queue has after reset. -/
theorem step_keeps_queue {P : QueueManager → Prop} (same : ∀ q r : QueueManager, q.sameApplied r → P r → P q)
    (queueStep : ∀ q r, QueueStep q r → P q → P r) (reset : P QueueManager.afterReset) {s t : State}
    (run : step s = .next t) (hs : P s.qm) : P t.qm := by
  refine step_keeps_applied same (fun q r op hq => ?_) reset run hs
  have steps := op.steps
  clear op
  induction steps with
  | refl => exact hq
  | tail _ last kept => exact queueStep _ _ last kept

end Sys2Proof.Machine
end

section
/-! PROOFS. What every step of an operation keeps of the queue: its bounds and its tickets, its sections and its songs, the
pairs and settings of its entries (R1 to R7). -/

namespace Sys2Proof.Machine

open List in
theorem nodup_of_subperm {α : Type} {l k : List α} (h : l <+~ k) (hk : k.Nodup) : l.Nodup := by
  obtain ⟨m, perm, sub⟩ := h
  exact perm.nodup_iff.1 (hk.sublist sub)

open List in
theorem map_subperm {α β : Type} {l k : List α} (h : l <+~ k) (f : α → β) : l.map f <+~ k.map f := by
  obtain ⟨m, perm, sub⟩ := h
  exact ⟨m.map f, perm.map f, sub.map f⟩

/-! ### An entry and the rest of the queue -/

open List in
/-- An entry and the queue without its ticket are part of the queue. -/
theorem cons_removeTicket_subperm {q : List Entry} {e : Entry} (h : e ∈ q) : e :: removeTicket q e.ticket <+~ q := by
  refine cons_subperm_of_not_mem_of_mem (fun mem => (mem_removeTicket.1 mem).2 rfl) h ?_
  exact (filter_sublist).subperm

open List in
theorem Joins.perm {q l : List Entry} {e : Entry} (h : Joins q e l) : l ~ e :: q := by
  cases h with
  | priorityHead => exact joinPriorityHead_perm q e
  | priorityTail => exact joinPriorityTail_perm q e
  | normalTail => exact joinNormalTail_perm q e

/-- What the CUED entry returns as, and the queue it returns to (R9): itself WAITING, or one that absorbs a waiting repeat. -/
theorem returnCued_cases (q : List Entry) (c : Entry) :
    (waitingSong (removeTicket q c.ticket) c.song = none
        ∧ returnCued q c = joinClassHead (removeTicket q c.ticket) { c with state := .waiting })
      ∨ ∃ a, waitingSong (removeTicket q c.ticket) c.song = some a
          ∧ returnCued q c
            = joinClassHead (removeTicket (removeTicket q c.ticket) a.ticket)
                ({ c with state := EntryState.waiting }.absorb a) := by
  unfold returnCued
  cases h : waitingSong (removeTicket q c.ticket) c.song with
  | none => exact .inl ⟨rfl, by simp only [h]⟩
  | some a => exact .inr ⟨a, rfl, by simp only [h]⟩

theorem joinClassHead_joins (q : List Entry) (e : Entry) : Joins q e (joinClassHead q e) := by
  unfold joinClassHead
  split
  · exact .priorityHead ‹_›
  · exact .priorityTail

/-! ### Tickets and bounds (R3, R4, R6) -/

open List in
/-- Replacing an entry by one of the same ticket brings no ticket into the queue. -/
theorem tickets_subperm_of_perm {q l : List Entry} {e e' : Entry} (mem : e ∈ q) (ticket : e'.ticket = e.ticket)
    (perm : l ~ e' :: removeTicket q e.ticket) : l.map (fun k => k.ticket) <+~ q.map (fun k => k.ticket) := by
  refine (perm.map _).subperm.trans ?_
  have same : (e' :: removeTicket q e.ticket).map (fun k => k.ticket)
      = (e :: removeTicket q e.ticket).map (fun k => k.ticket) := by simp [ticket]
  rw [same]
  exact map_subperm (cons_removeTicket_subperm mem) _

open List in
theorem Reshaped.tickets_subperm {q l : List Entry} (h : Reshaped q l) :
    l.map (fun e => e.ticket) <+~ q.map (fun e => e.ticket) := by
  cases h with
  | updated e e' mem as =>
    rw [map_ticket_updateTicket _ _ _ fun _ _ => as.ticket]
  | moved e e' l mem _ _ ticket _ _ joins => exact tickets_subperm_of_perm mem ticket joins.perm
  | removed e mem => exact ((filter_sublist).map _).subperm
  | cleared => exact ((filter_sublist).map _).subperm
  | unnamed n => rw [map_map]; exact Subperm.refl _
  | returned c cued =>
    have mem := (mem_of_cuedEntry cued).1
    obtain ⟨-, h⟩ | ⟨a, -, h⟩ := returnCued_cases q c
    · rw [h]
      exact tickets_subperm_of_perm (e' := { c with state := .waiting }) mem rfl (joinClassHead_perm _ _)
    · rw [h]
      refine ((joinClassHead_perm _ _).map _).subperm.trans ?_
      refine Subperm.trans ?_ (map_subperm (cons_removeTicket_subperm mem) _)
      exact ((filter_sublist.map _).cons_cons _).subperm
  | taken e _ first =>
    exact tickets_subperm_of_perm (e' := { e with state := .cued }) (mem_of_find?_eq_some first) rfl
      (joinAfterPlaying_perm _ _)
  | begun e cued => rw [map_ticket_updateTicket q e.ticket (fun _ => { e with state := .playing }) fun _ _ => rfl]

/-- A queue that holds no ticket the old one does not. -/
theorem QueueManager.wellKept_withQueue {q : QueueManager} (h : q.wellKept) {l : List Entry}
    (sub : (l.map (fun e => e.ticket)).Subperm (q.queue.map (fun e => e.ticket))) :
    QueueManager.wellKept { q with queue := l } := by
  obtain ⟨queue, history, distinct, tickets, counter⟩ := h
  refine ⟨?_, history, ?_, fun e he => ?_, counter⟩
  · have := sub.length_le
    simp only [List.length_map] at this
    exact this.trans queue
  · exact nodup_of_subperm ((List.subperm_append_right _).2 sub) distinct
  · obtain ⟨k, hk, same⟩ := List.mem_map.1 (sub.subset (List.mem_map_of_mem (f := fun e => e.ticket) he))
    have := tickets k hk
    rw [← same]
    exact this

/-- A new ticket is in range and carried by no record (R4). -/
theorem QueueManager.newTicket_free {q : QueueManager} (h : q.wellKept) :
    1 ≤ q.newTicket ∧ q.newTicket ≤ 999 ∧ (∀ e ∈ q.queue, e.ticket ≠ q.newTicket)
      ∧ ∀ r ∈ q.history, r.ticket ≠ q.newTicket := by
  obtain ⟨queue, history, -, -, low, high⟩ := h
  obtain ⟨k, hk, found, free, -⟩ :=
    freeTicket_spec q.live 999 q.ticketCounter low high (QueueManager.exists_free_ticket queue history q.ticketCounter)
  have new : q.newTicket = ticketAfter q.ticketCounter k := found
  rw [← new] at free
  have range : 1 ≤ q.newTicket ∧ q.newTicket ≤ 999 := by rw [new, ticketAfter]; omega
  exact ⟨range.1, range.2, QueueManager.live_eq_false_iff.1 free⟩

open List in
/-- The history after a record is filed: at most 16 records, the new one's ticket and tickets it held (R7). -/
theorem fileRecord_tickets (h : List HistoryRecord) (r : HistoryRecord) :
    ∃ kept, kept <+ h ∧ fileRecord h r = kept ++ [r] ∧ (h.length ≤ 16 → kept.length ≤ 15) := by
  unfold fileRecord
  split
  · exact ⟨_, tail_sublist h, rfl, fun _ => by simp; omega⟩
  · next room => exact ⟨h, Sublist.refl h, rfl, fun _ => by simp [Config.historyPlaces] at room; omega⟩

theorem QueueStep.wellKept {q r : QueueManager} (h : QueueStep q r) (hq : q.wellKept) : r.wellKept := by
  cases h with
  | queue l h => exact QueueManager.wellKept_withQueue hq h.tickets_subperm
  | roster v => exact hq
  | entered e l room ticket new waits sound joins =>
    obtain ⟨low, high, queue, history⟩ := QueueManager.newTicket_free hq
    obtain ⟨-, hist, distinct, tickets, -⟩ := hq
    have perm := joins.perm
    refine ⟨?_, hist, ?_, fun k hk => ?_, nextTicket_range (ticket ▸ high)⟩
    · rw [perm.length_eq]; exact room
    · have all := (perm.map (fun e : Entry => e.ticket)).append_right (q.history.map (fun h => h.ticket))
      rw [all.nodup_iff, List.map_cons, List.cons_append, List.nodup_cons]
      refine ⟨fun mem => ?_, distinct⟩
      rw [ticket] at mem
      simp only [List.mem_append, List.mem_map] at mem
      obtain ⟨k, hk, same⟩ | ⟨k, hk, same⟩ := mem
      · exact queue k hk same
      · exact history k hk same
    · obtain rfl | hk := List.mem_cons.1 (perm.mem_iff.1 hk)
      · rw [ticket]; exact ⟨low, high⟩
      · exact tickets k hk
  | retired e rec playing ticket =>
    obtain ⟨mem, -⟩ := mem_of_playingEntry playing
    obtain ⟨queue, history, distinct, tickets, counter⟩ := hq
    obtain ⟨kept, sub, filed, length⟩ := fileRecord_tickets q.history rec
    refine ⟨?_, ?_, ?_, fun k hk => tickets k (mem_removeTicket.1 hk).1, counter⟩
    · exact (List.length_filter_le _ _).trans queue
    · have := length history
      simp [filed]
      omega
    · refine nodup_of_subperm ?_ distinct
      have moved : ((removeTicket q.queue e.ticket).map (fun k => k.ticket)
            ++ (kept ++ [rec]).map (fun h => h.ticket)).Perm
          ((e :: removeTicket q.queue e.ticket).map (fun k => k.ticket) ++ kept.map (fun h => h.ticket)) := by
        simp only [List.map_append, List.map_cons, List.map_nil, ticket, List.cons_append, ← List.append_assoc]
        exact List.perm_append_singleton _ _
      rw [show fileRecord q.history rec = kept ++ [rec] from filed]
      refine moved.subperm.trans ?_
      exact ((List.subperm_append_right _).2 (map_subperm (cons_removeTicket_subperm mem) _)).trans
        ((List.Sublist.refl _).append (sub.map _)).subperm

/-- Settles O7: each step of an operation keeps the bounds and the tickets. -/
theorem queueStaysWellKept : Obligations.QueueStaysWellKept := by
  unfold Obligations.QueueStaysWellKept
  refine fun s t hs run => step_keeps_queue (fun q r same h => ?_) (fun _ _ h => h.wellKept) ?_ run hs
  · obtain ⟨queue, -, history, counter⟩ := same
    unfold QueueManager.wellKept
    rwa [queue, history, counter]
  · simp [QueueManager.wellKept, QueueManager.afterReset]

/-! ### Sections (R3) -/

/-- The queue stands in its four sections. -/
def inSections (q : List Entry) : Prop := q.Pairwise (fun a b => a.section ≤ b.section)

theorem Entry.section_of_waits {e : Entry} (h : e.waits = true) :
    e.section = if e.cls = .priority then 2 else 3 := by
  unfold Entry.section
  unfold Entry.waits at h
  cases hs : e.state <;> cases hc : e.cls <;> simp_all

/-- The entries on stage stand ahead of the waiting sections. -/
theorem Entry.onStage_iff (e : Entry) : e.onStage = true ↔ e.section ≤ 1 := by
  unfold Entry.section Entry.onStage
  cases e.state <;> cases e.cls <;> simp

theorem Entry.aheadOfNormal_iff (e : Entry) : e.aheadOfNormal = true ↔ e.section ≤ 2 := by
  unfold Entry.section Entry.aheadOfNormal Entry.onStage
  cases e.state <;> cases e.cls <;> simp

theorem Entry.playing_iff (e : Entry) : (e.state == .playing) = true ↔ e.section ≤ 0 := by
  unfold Entry.section
  cases e.state <;> cases e.cls <;> simp

theorem Entry.section_le (e : Entry) : e.section ≤ 3 := by
  unfold Entry.section
  cases e.state <;> cases e.cls <;> simp

/-- An entry put behind the leading entries of a number of sections, where its own section is the next or the last of
them. -/
theorem inSections_insert {q : List Entry} (h : inSections q) {e : Entry} {p : Entry → Bool} {n : Nat}
    (hp : ∀ a, p a = true ↔ a.section ≤ n) (low : n ≤ e.section) (high : e.section ≤ n + 1) :
    inSections (q.takeWhile p ++ e :: q.dropWhile p) := by
  have ahead : ∀ a ∈ q.takeWhile p, a.section ≤ n := fun a ha => (hp a).1 (List.mem_takeWhile_imp ha)
  have behind : ∀ a ∈ q.dropWhile p, n + 1 ≤ a.section := by
    have sorted : inSections (q.dropWhile p) := List.Pairwise.sublist (List.dropWhile_sublist p) h
    cases hd : q.dropWhile p with
    | nil => simp
    | cons b rest =>
      have first : ¬ b.section ≤ n := by
        have := List.head_dropWhile_not p (l := q) (by simp [hd])
        simp only [hd, List.head_cons] at this
        simp [← hp, this]
      rw [hd] at sorted
      intro a ha
      obtain rfl | ha := List.mem_cons.1 ha
      · omega
      · have := List.rel_of_pairwise_cons sorted ha
        omega
  have parts : inSections (q.takeWhile p ++ q.dropWhile p) := by rwa [List.takeWhile_append_dropWhile]
  obtain ⟨left, right, across⟩ := List.pairwise_append.1 parts
  refine List.pairwise_append.2 ⟨left, List.pairwise_cons.2 ⟨fun b hb => ?_, right⟩, fun a ha b hb => ?_⟩
  · exact high.trans (behind b hb)
  · obtain rfl | hb := List.mem_cons.1 hb
    · exact (ahead a ha).trans low
    · exact across a ha b hb

theorem Joins.inSections {q l : List Entry} {e : Entry} (h : Joins q e l) (waits : e.waits = true)
    (hq : inSections q) : inSections l := by
  have stands := Entry.section_of_waits waits
  cases h with
  | priorityHead cls =>
    rw [if_pos cls] at stands
    exact inSections_insert hq Entry.onStage_iff (by omega) (by omega)
  | priorityTail =>
    refine inSections_insert hq Entry.aheadOfNormal_iff ?_ ?_ <;> rw [stands] <;> split <;> omega
  | normalTail cls =>
    rw [cls] at stands
    refine List.pairwise_append.2 ⟨hq, List.pairwise_singleton _ _, fun a _ b hb => ?_⟩
    obtain rfl := List.mem_singleton.1 hb
    rw [stands]
    exact a.section_le

theorem Entry.StandsAs.section {e e' : Entry} (h : e'.StandsAs e) : e'.section = e.section := by
  obtain state | ⟨waits, waits'⟩ := h.state
  · unfold Entry.section; rw [state, h.cls]
  · rw [Entry.section_of_waits waits, Entry.section_of_waits waits', h.cls]

/-- An update that keeps the section of each entry, or that moves one to the front of the sections with none but its like
ahead. -/
theorem inSections_update {q : List Entry} (h : inSections q) {ticket : Nat} {e' : Entry}
    (stands : ∀ e ∈ q, e.ticket = ticket → e'.section = e.section) : inSections (updateTicket q ticket fun _ => e') := by
  refine List.pairwise_map.2 (h.imp_of_mem fun {a b} ha hb le => ?_)
  have keeps : ∀ a ∈ q, (if a.ticket = ticket then e' else a).section = a.section := by
    intro a ha
    split
    · exact stands a ha ‹_›
    · rfl
  rwa [keeps a ha, keeps b hb]

/-! ### One CUED entry, and songs that wait once (R3) -/

/-- At most one entry is CUED and no song waits twice. -/
def keptApart (q : List Entry) : Prop :=
  q.countP (fun e => e.state == .cued) ≤ 1 ∧ ((q.filter Entry.waits).map (fun e => e.song)).Nodup

theorem QueueManager.inOrder_iff (q : QueueManager) : q.inOrder ↔ inSections q.queue ∧ keptApart q.queue := Iff.rfl

open List in
theorem keptApart_of_subperm {l q : List Entry} (h : l <+~ q) (hq : keptApart q) : keptApart l :=
  ⟨(h.countP_le _).trans hq.1, nodup_of_subperm (map_subperm (h.filter _) _) hq.2⟩

/-- A waiting entry in front of others, none of which waits for its song. -/
theorem keptApart_cons_waits {q : List Entry} {e : Entry} (waits : e.waits = true)
    (new : ∀ k ∈ q, k.waits = true → k.song ≠ e.song) (hq : keptApart q) : keptApart (e :: q) := by
  obtain ⟨cued, songs⟩ := hq
  refine ⟨?_, ?_⟩
  · rw [List.countP_cons_of_neg]
    · exact cued
    · intro state
      simp only [beq_iff_eq] at state
      simp [Entry.waits, state] at waits
  · rw [List.filter_cons_of_pos waits, List.map_cons, List.nodup_cons]
    refine ⟨fun mem => ?_, songs⟩
    obtain ⟨k, hk, same⟩ := List.mem_map.1 mem
    obtain ⟨hk, kw⟩ := List.mem_filter.1 hk
    exact new k hk kw same

/-- The rest of a queue kept apart waits for other songs than its first waiting entry. -/
theorem song_ne_of_keptApart_cons {q : List Entry} {e : Entry} (waits : e.waits = true) (h : keptApart (e :: q)) :
    ∀ k ∈ q, k.waits = true → k.song ≠ e.song := by
  intro k hk kw same
  have songs := h.2
  rw [List.filter_cons_of_pos waits, List.map_cons, List.nodup_cons] at songs
  exact songs.1 (List.mem_map.2 ⟨k, List.mem_filter.2 ⟨hk, kw⟩, same⟩)

/-- A waiting entry in the place of another for the same song. -/
theorem keptApart_cons_of_waits {q : List Entry} {e e' : Entry} (waits : e.waits = true) (waits' : e'.waits = true)
    (song : e'.song = e.song) (h : keptApart (e :: q)) : keptApart (e' :: q) :=
  keptApart_cons_waits waits' (song ▸ song_ne_of_keptApart_cons waits h)
    (keptApart_of_subperm (List.sublist_cons_self e q).subperm h)

theorem waitingSong_none {q : List Entry} {song : Nat} (h : waitingSong q song = none) :
    ∀ k ∈ q, k.waits = true → k.song ≠ song := by
  intro k hk kw same
  have := List.find?_eq_none.1 h k hk
  simp [kw, same] at this

open List in
/-- Under a ticket that no two entries carry, an update replaces one entry. -/
theorem updateTicket_perm {q : List Entry} (h : (q.map (fun e => e.ticket)).Nodup) {e : Entry} (mem : e ∈ q)
    (e' : Entry) : updateTicket q e.ticket (fun _ => e') ~ e' :: removeTicket q e.ticket := by
  induction q with
  | nil => cases mem
  | cons k q ih =>
    rw [map_cons, nodup_cons] at h
    obtain ⟨new, distinct⟩ := h
    by_cases same : k.ticket = e.ticket
    · have others : ∀ a ∈ q, a.ticket ≠ e.ticket := fun a ha eq =>
        new (mem_map.2 ⟨a, ha, eq.trans same.symm⟩)
      have updated : updateTicket q e.ticket (fun _ => e') = q := by
        refine (map_congr_left fun a ha => if_neg (others a ha)).trans (map_id _)
      have removed : removeTicket q e.ticket = q := filter_eq_self.2 fun a ha => by simpa using others a ha
      simp only [updateTicket, removeTicket, map_cons, if_pos same] at updated removed ⊢
      rw [updated, filter_cons_of_neg (by simp [same]), removed]
    · have mem : e ∈ q := by
        obtain rfl | mem := mem_cons.1 mem
        · exact absurd rfl same
        · exact mem
      have := ih distinct mem
      simp only [updateTicket, removeTicket, map_cons, if_neg same] at this ⊢
      rw [filter_cons_of_pos (by simp [same])]
      exact (this.cons k).trans (Perm.swap _ _ _)

/-- The CUED entry with its like ahead, taken to the stage. -/
theorem inSections_begun {q : List Entry} (hq : inSections q) (distinct : (q.map (fun e => e.ticket)).Nodup) {e : Entry}
    (cued : cuedEntry q = some e) :
    inSections (updateTicket q e.ticket fun _ => { e with state := .playing }) := by
  obtain ⟨state, front, back, rfl, none⟩ := List.find?_eq_some_iff_append.1 cued
  simp only [beq_iff_eq, Bool.not_eq_eq_eq_not, Bool.not_true, beq_eq_false_iff_ne] at state none
  rw [List.map_append, List.map_cons, List.nodup_append, List.nodup_cons] at distinct
  obtain ⟨-, ⟨behind, -⟩, ahead⟩ := distinct
  have same (l : List Entry) (h : ∀ a ∈ l, a.ticket ≠ e.ticket) :
      updateTicket l e.ticket (fun _ => { e with state := .playing }) = l :=
    (List.map_congr_left fun a ha => if_neg (h a ha)).trans (List.map_id _)
  have split : updateTicket (front ++ e :: back) e.ticket (fun _ => { e with state := .playing })
      = front ++ { e with state := .playing } :: back := by
    rw [updateTicket, List.map_append, List.map_cons, if_pos rfl]
    congr 1
    · exact same front fun a ha eq => ahead _ (List.mem_map_of_mem ha) _ List.mem_cons_self eq
    · congr 1
      exact same back fun a ha eq => behind (List.mem_map.2 ⟨a, ha, eq⟩)
  rw [split]
  obtain ⟨left, right, across⟩ := List.pairwise_append.1 hq
  have rest := (List.pairwise_cons.1 right).2
  refine List.pairwise_append.2 ⟨left, List.pairwise_cons.2 ⟨fun b _ => ?_, rest⟩, fun a ha b hb => ?_⟩
  · simp [Entry.section]
  · obtain rfl | hb := List.mem_cons.1 hb
    · have le := across a ha e List.mem_cons_self
      have stage : e.section = 1 := by simp [Entry.section, state]
      have playing : a.state = .playing := by
        have staged := a.onStage_iff.2 (stage ▸ le)
        simpa [Entry.onStage, none a ha] using staged
      simp [Entry.section, playing]
    · exact across a ha b (List.mem_cons_of_mem _ hb)

theorem Reshaped.inSections {q l : List Entry} (h : Reshaped q l) (distinct : (q.map (fun e => e.ticket)).Nodup)
    (hq : inSections q) : inSections l := by
  have without (k : List Entry) (t : Nat) (hk : Machine.inSections k) : Machine.inSections (removeTicket k t) :=
    hk.sublist List.filter_sublist
  cases h with
  | updated e e' mem as =>
    refine inSections_update hq fun k hk ticket => ?_
    obtain rfl := List.inj_on_of_nodup_map distinct hk mem ticket
    exact as.section
  | moved e e' l mem waits waits' ticket song sound joins => exact joins.inSections waits' (without _ _ hq)
  | removed e mem => exact without _ _ hq
  | cleared => exact hq.sublist List.filter_sublist
  | unnamed n => exact List.pairwise_map.2 hq
  | returned c cued =>
    obtain ⟨-, h⟩ | ⟨a, found, h⟩ := returnCued_cases q c
    · rw [h]
      exact (joinClassHead_joins _ _).inSections rfl (without _ _ hq)
    · rw [h]
      exact (joinClassHead_joins _ _).inSections (mem_of_waitingSong found).2.1 (without _ _ (without _ _ hq))
  | taken e _ first =>
    exact inSections_insert (e := { e with state := .cued }) (without _ _ hq) Entry.playing_iff (by simp)
      (by simp [Entry.section])
  | begun e cued => exact inSections_begun hq distinct cued

theorem Reshaped.keptApart {q l : List Entry} (h : Reshaped q l) (distinct : (q.map (fun e => e.ticket)).Nodup)
    (hq : keptApart q) : keptApart l := by
  have first {e : Entry} (mem : e ∈ q) : Machine.keptApart (e :: removeTicket q e.ticket) :=
    keptApart_of_subperm (cons_removeTicket_subperm mem) hq
  have rest (t : Nat) : Machine.keptApart (removeTicket q t) :=
    keptApart_of_subperm List.filter_sublist.subperm hq
  cases h with
  | updated e e' mem as =>
    refine keptApart_of_subperm (updateTicket_perm distinct mem e').subperm ?_
    obtain state | ⟨waits, waits'⟩ := as.state
    · obtain ⟨cued, songs⟩ := first mem
      have same : e'.waits = e.waits := by simp [Entry.waits, state]
      refine ⟨by simpa [List.countP_cons, state] using cued, ?_⟩
      cases hw : e.waits <;> simpa [List.filter_cons, same, hw, as.song] using songs
    · exact keptApart_cons_of_waits waits waits' as.song (first mem)
  | moved e e' l mem waits waits' ticket song sound joins =>
    exact keptApart_of_subperm joins.perm.subperm (keptApart_cons_of_waits waits waits' song (first mem))
  | removed e mem => exact rest _
  | cleared => exact keptApart_of_subperm List.filter_sublist.subperm hq
  | unnamed n =>
    obtain ⟨cued, songs⟩ := hq
    refine ⟨by rwa [List.countP_map], ?_⟩
    rw [List.filter_map, List.map_map]
    exact songs
  | returned c cued =>
    obtain ⟨new, h⟩ | ⟨a, found, h⟩ := returnCued_cases q c
    · rw [h]
      exact keptApart_of_subperm (joinClassHead_perm _ _).subperm
        (keptApart_cons_waits (e := { c with state := .waiting }) rfl (waitingSong_none new) (rest _))
    · rw [h]
      obtain ⟨mem, waits, song⟩ := mem_of_waitingSong found
      exact keptApart_of_subperm (joinClassHead_perm _ _).subperm
        (keptApart_cons_of_waits (e' := Entry.absorb { c with state := .waiting } a) waits waits song.symm
          (keptApart_of_subperm (cons_removeTicket_subperm mem) (rest c.ticket)))
  | taken e free first' =>
    refine keptApart_of_subperm (joinAfterPlaying_perm _ _).subperm ?_
    obtain ⟨-, songs⟩ := rest e.ticket
    refine ⟨?_, by rwa [List.filter_cons_of_neg (by simp [Entry.waits])]⟩
    have none : (removeTicket q e.ticket).countP (fun k => k.state == .cued) = 0 :=
      List.countP_eq_zero.2 fun k hk => by simpa using cuedEntry_eq_none_iff.1 free k (mem_removeTicket.1 hk).1
    simp [none]
  | begun e cued =>
    have mem := (mem_of_cuedEntry cued).1
    refine keptApart_of_subperm (updateTicket_perm distinct mem _).subperm ?_
    obtain ⟨one, songs⟩ := rest e.ticket
    exact ⟨by simpa [List.countP_cons] using one, by rwa [List.filter_cons_of_neg (by simp [Entry.waits])]⟩

theorem QueueManager.wellKept.distinct {q : QueueManager} (h : q.wellKept) :
    (q.queue.map (fun e => e.ticket)).Nodup := (List.nodup_append.1 h.2.2.1).1

theorem QueueStep.inOrder {q r : QueueManager} (h : QueueStep q r) (kept : q.wellKept) (hq : q.inOrder) : r.inOrder := by
  rw [QueueManager.inOrder_iff] at hq ⊢
  obtain ⟨sections, apart⟩ := hq
  cases h with
  | queue l h => exact ⟨h.inSections kept.distinct sections, h.keptApart kept.distinct apart⟩
  | roster v => exact ⟨sections, apart⟩
  | entered e l room ticket new waits sound joins =>
    exact ⟨joins.inSections waits sections,
      keptApart_of_subperm joins.perm.subperm (keptApart_cons_waits waits (waitingSong_none new) apart)⟩
  | retired e r playing ticket =>
    exact ⟨sections.sublist List.filter_sublist, keptApart_of_subperm List.filter_sublist.subperm apart⟩

/-- The sections and songs of the queue after a step, where its tickets are well kept. -/
theorem step_inOrder {s t : State} (kept : s.qm.wellKept) (hs : s.qm.inOrder) (run : step s = .next t) : t.qm.inOrder := by
  have both : t.qm.wellKept ∧ t.qm.inOrder := by
    refine step_keeps_queue (P := fun q => q.wellKept ∧ q.inOrder) (fun q r same h => ?_)
      (fun _ _ h hq => ⟨h.wellKept hq.1, h.inOrder hq.1 hq.2⟩) ?_ run ⟨kept, hs⟩
    · obtain ⟨queue, -, history, counter⟩ := same
      unfold QueueManager.wellKept QueueManager.inOrder
      rwa [queue, history, counter]
    · simp [QueueManager.wellKept, QueueManager.inOrder, QueueManager.afterReset]
  exact both.2

/-! ### Pairs and settings (R1, R2) -/

/-- Every entry of a reshaped queue is sound. -/
theorem Reshaped.sound {q l : List Entry} (h : Reshaped q l) (hq : ∀ e ∈ q, e.sound) : ∀ e ∈ l, e.sound := by
  have joined {k : List Entry} {e' : Entry} {t : Nat} (perm : k.Perm (e' :: removeTicket q t)) (he' : e'.sound) :
      ∀ e ∈ k, e.sound := by
    intro e he
    obtain rfl | he := List.mem_cons.1 (perm.mem_iff.1 he)
    · exact he'
    · exact hq e (mem_removeTicket.1 he).1
  have updated {ticket : Nat} {e' : Entry} (he' : e'.sound) : ∀ e ∈ updateTicket q ticket (fun _ => e'), e.sound := by
    intro e he
    obtain ⟨k, hk, rfl⟩ := List.mem_map.1 he
    split
    · exact he'
    · exact hq k hk
  cases h with
  | updated e e' mem as => exact updated (as.sound (hq e mem))
  | moved e e' l mem waits waits' ticket song sound joins => exact joined joins.perm (sound (hq e mem))
  | removed e mem => exact fun k hk => hq k (mem_removeTicket.1 hk).1
  | cleared => exact fun k hk => hq k (List.mem_filter.1 hk).1
  | unnamed n =>
    intro e he
    obtain ⟨k, hk, rfl⟩ := List.mem_map.1 he
    exact hq k hk
  | returned c cued =>
    have hc := hq c (mem_of_cuedEntry cued).1
    obtain ⟨-, h⟩ | ⟨a, found, h⟩ := returnCued_cases q c
    · rw [h]
      exact joined (joinClassHead_perm _ { c with state := .waiting }) hc
    · rw [h]
      have ha := hq a (mem_removeTicket.1 (mem_of_waitingSong found).1).1
      intro e he
      obtain rfl | he := List.mem_cons.1 ((joinClassHead_perm _ _).mem_iff.1 he)
      · exact Entry.sound_absorb (e := { c with state := .waiting }) hc ha
      · exact hq e (mem_removeTicket.1 (mem_removeTicket.1 he).1).1
  | taken e _ first => exact joined (joinAfterPlaying_perm _ { e with state := .cued }) (hq e (List.mem_of_find?_eq_some first))
  | begun e cued => exact updated (e' := { e with state := .playing }) (hq e (mem_of_cuedEntry cued).1)

theorem QueueStep.sound {q r : QueueManager} (h : QueueStep q r) (hq : ∀ e ∈ q.queue, e.sound) :
    ∀ e ∈ r.queue, e.sound := by
  cases h with
  | queue l h => exact h.sound hq
  | roster v => exact hq
  | entered e l room ticket new waits sound joins =>
    intro k hk
    obtain rfl | hk := List.mem_cons.1 (joins.perm.mem_iff.1 hk)
    · exact sound
    · exact hq k hk
  | retired e r playing ticket => exact fun k hk => hq k (mem_removeTicket.1 hk).1

end Sys2Proof.Machine
end

section
/-! PROOFS. Keys, tempos and the clock's remainder (R1, R66): the confirmations on their way, and the stage record move by
move. -/

namespace Sys2Proof.Machine

/-! ### The QM's waiting work under an operation -/

/-- The same operation in flight, the same waiting work, the same confirmations on their way. -/
def QueueManager.sameWork (q r : QueueManager) : Prop :=
  q.inFlight = r.inFlight ∧ q.backlog = r.backlog ∧ q.takeNext = r.takeNext ∧ q.notices = r.notices
    ∧ q.toStage = r.toStage

theorem QueueStep.sameWork {q r : QueueManager} (h : QueueStep q r) : r.sameWork q := by
  cases h <;> exact ⟨rfl, rfl, rfl, rfl, rfl⟩

theorem QueueSteps.sameWork {q r : QueueManager} (h : QueueSteps q r) : r.sameWork q := by
  induction h with
  | refl => exact ⟨rfl, rfl, rfl, rfl, rfl⟩
  | tail _ last same =>
    obtain ⟨a, b, c, d, e⟩ := last.sameWork
    obtain ⟨a', b', c', d', e'⟩ := same
    exact ⟨a.trans a', b.trans b', c.trans c', d.trans d', e.trans e'⟩

theorem Applied.toStage {q r : QueueManager} (h : Applied q r) : r.toStage = q.toStage := h.steps.sameWork.2.2.2.2

/-! ### The confirmations on their way (R37 to R39) -/

theorem Work.toStage {src : Source} {c : Command} {s t : State} (h : Work src c s t) : t.qm.toStage = s.qm.toStage := by
  cases h with
  | edit | takeNext => exact State.arrive_toStage _ _
  | start | stop | stageReset => exact State.arrive_toStage _ _
  | sync s time ended a song =>
    have timed : (s.setTime time).qm = s.qm := by simp [State.setTime]
    rw [State.answer_qm, State.endIf]
    split
    · exact (State.arrive_toStage _ _).trans (congrArg _ (by simpa using timed))
    · exact congrArg _ timed
  | _ => simp [State.loadDone, State.stageChangedIf, State.endResult]

/-- A confirmation on its way after a move was on its way before, or carries a queue entry's settings, or carries none. -/
theorem Move.confirmations {i : Instr} {s t : State} (h : Move i s t) :
    ∀ c ∈ t.qm.toStage,
      c ∈ s.qm.toStage ∨ (∃ e ∈ s.qm.queue, c = .start e.startKey e.tempo e.duet) ∨ ∀ k p d, c ≠ .start k p d := by
  have same (toStage : t.qm.toStage = s.qm.toStage) : ∀ c ∈ t.qm.toStage,
      c ∈ s.qm.toStage ∨ (∃ e ∈ s.qm.queue, c = .start e.startKey e.tempo e.duet) ∨ ∀ k p d, c ≠ .start k p d :=
    fun c hc => .inl (toStage ▸ hc)
  have joined {q : QueueManager} {k : Confirmation} (steps : QueueSteps s.qm q) (toStage : t.qm.toStage = q.toStage ++ [k])
      (new : (∃ e ∈ s.qm.queue, k = .start e.startKey e.tempo e.duet) ∨ ∀ i p d, k ≠ .start i p d) : ∀ c ∈ t.qm.toStage,
      c ∈ s.qm.toStage ∨ (∃ e ∈ s.qm.queue, c = .start e.startKey e.tempo e.duet) ∨ ∀ k p d, c ≠ .start k p d := by
    rw [toStage, steps.sameWork.2.2.2.2]
    intro c hc
    obtain hc | hc := List.mem_append.1 hc
    · exact .inl hc
    · obtain rfl := List.mem_singleton.1 hc
      exact .inr new
  have fewer {c : Confirmation} {rest : List Confirmation} (before : s.qm.toStage = c :: rest)
      (toStage : t.qm.toStage = rest) : ∀ c ∈ t.qm.toStage,
      c ∈ s.qm.toStage ∨ (∃ e ∈ s.qm.queue, c = .start e.startKey e.tempo e.duet) ∨ ∀ k p d, c ≠ .start k p d :=
    fun k hk => .inl (before ▸ List.mem_cons_of_mem _ (toStage ▸ hk))
  cases h with
  | handled src t h =>
    cases h with
    | nothing => exact same rfl
    | refused => exact same (by simp)
    | routed c t taken work => exact same work.toStage
  | selectFalls => obtain ⟨p, h⟩ := s.selectFalls_withPorts; exact same (by simp [h])
  | clockByte b => obtain ⟨p, h⟩ := s.clockByte_withPorts b; exact same (by simp [h])
  | editEnd => exact same ((State.finish_toStage _ _ _ _).trans (Applied.edit _ _ _).toStage)
  | takeNextEnd => exact same ((State.finish_toStage _ _ _ _).trans Applied.takeNext.toStage)
  | startEnd e row notice cued =>
    exact joined (Applied.start e cued).steps (State.finishNotice_toStage _ _ _ fun _ => rfl)
      (.inl ⟨e, (mem_of_cuedEntry cued).1, rfl⟩)
  | startLost => exact joined .refl (State.finishNotice_toStage _ _ _ fun _ => rfl) (.inr fun _ _ _ h => nomatch h)
  | retireEnd kind time lanes =>
    exact joined (Applied.retire kind time lanes).steps (State.finishNotice_toStage _ _ _ fun _ => by simp)
      (.inr fun _ _ _ h => nomatch h)
  | resetEnd time =>
    exact joined (Applied.abandon time).steps (State.finishNotice_toStage _ _ _ fun _ => by simp)
      (.inr fun _ _ _ h => nomatch h)
  | startConfirmed key tempo duet rest p a confirmed => exact fewer confirmed rfl
  | cueLost rest p lost => exact fewer lost rfl
  | retireConfirmed rest confirmed =>
    refine fewer confirmed ?_
    obtain ⟨p, stop⟩ := State.answerStop_withPorts
      (((((s.withQm { s.qm with toStage := rest }).withSc { s.sc with endTime := none }).showResult).raiseAll .songEnded))
    rw [stop]
    obtain ⟨-, h⟩ | ⟨-, -, h⟩ | ⟨-, -, h⟩ := State.showResult_cases
      ((s.withQm { s.qm with toStage := rest }).withSc { s.sc with endTime := none }) <;>
      rw [State.withPorts_qm, State.raiseAll_qm, h] <;> rfl
  | resetConfirmed rest confirmed => exact fewer confirmed rfl
  | finalise => exact same ((State.arrive_toStage _ _).trans rfl)
  | saveEnd _ matched saving => obtain ⟨p, q, h, -⟩ := s.endSave_withPs matched saving; exact same (by simp [h])
  | resetBegins => exact fun _ h => nomatch h
  | resetEnds => exact fun _ h => nomatch h
  | _ =>
    exact same (by
      simp [State.receive, State.shiftOut, State.loadDone, State.endResult, State.frameStart, State.sample, State.micClip])

/-! ### The stage's settings and its clock (R66) -/

/-- The stage's key, tempo and remainder in range. -/
def StageController.clockSound (c : StageController) : Prop := pitchAndPace c.key c.tempo ∧ c.remainder ≤ 99

theorem StageController.clockSound_afterReset : StageController.afterReset.clockSound := by
  unfold StageController.clockSound pitchAndPace
  decide

theorem StageController.clockSound_advance {c : StageController} (h : c.clockSound) : c.advance.clockSound := by
  obtain ⟨settings, low⟩ := h
  have tempo := settings.2.2.2
  obtain ⟨sum, h⟩ | ⟨-, sum, h⟩ | ⟨sum, -, h⟩ | ⟨r, -, -, h⟩ := StageController.advance_cases c <;> rw [h]
  · exact ⟨settings, by simp only [StageController.moved]; omega⟩
  · exact ⟨settings, by simp only [StageController.moved]; omega⟩
  · exact ⟨settings, by simp only [StageController.moved]; omega⟩
  · exact ⟨settings, by simp only [StageController.moved]; omega⟩

theorem StageController.clockSound_key {c : StageController} (h : c.clockSound) (k : Int) :
    StageController.clockSound { c with key := clampInt (-6) 6 k } := by
  obtain ⟨⟨-, -, tempo⟩, low⟩ := h
  refine ⟨⟨?_, ?_, tempo⟩, low⟩ <;> simp only [clampInt] <;> omega

theorem StageController.clockSound_tempo {c : StageController} (h : c.clockSound) (p : Nat) :
    StageController.clockSound { c with tempo := clampNat 85 115 p } := by
  obtain ⟨⟨low, high, -⟩, remainder⟩ := h
  refine ⟨⟨low, high, ?_, ?_⟩, remainder⟩ <;> simp only [clampNat] <;> omega

theorem State.clockSound_setTime {s : State} (h : s.sc.clockSound) (t : Nat) : (s.setTime t).sc.clockSound := by
  obtain ⟨settings, -⟩ := h
  unfold State.setTime
  split
  · exact ⟨settings, Nat.zero_le _⟩
  · exact ⟨settings, Nat.zero_le _⟩

theorem State.finalise_sc (s : State) (kind : EndKind) : (s.finalise kind).sc = { s.sc with stage := .ending } := by
  simp [State.finalise]

theorem Work.clockSound {src : Source} {c : Command} {s t : State} (h : Work src c s t) (hs : s.sc.clockSound) :
    t.sc.clockSound := by
  cases h with
  | start => rw [State.beginStart, State.arrive_sc]; exact hs
  | stop => rw [State.finalise_sc]; exact hs
  | stageReset => rw [State.beginReset, State.arrive_sc]; exact hs
  | sync s time ended a song =>
    have timed := State.clockSound_setTime hs time
    rw [State.answer_sc, State.endIf]
    split
    · rw [State.finalise_sc]; exact timed
    · exact timed
  | key c s k moved a right song =>
    have keyed := StageController.clockSound_key hs k
    simpa [State.stageChangedIf] using keyed
  | tempo s p moved a song =>
    have paced := StageController.clockSound_tempo hs p
    simpa [State.stageChangedIf] using paced
  | pause | resume => exact hs
  | skipResult => exact hs
  | _ => simpa [State.loadDone] using hs

theorem State.clockSound_showResult {s : State} (hs : s.sc.clockSound) : s.showResult.sc.clockSound := by
  obtain ⟨-, h⟩ | ⟨-, -, h⟩ | ⟨-, -, h⟩ := s.showResult_cases <;> rw [h] <;> exact hs

/-- The clock after a move, where the confirmations on their way are sound. -/
theorem Move.clockSound {i : Instr} {s t : State} (h : Move i s t) (confirmations : ∀ c ∈ s.qm.toStage, c.sound)
    (hs : s.sc.clockSound) : t.sc.clockSound := by
  cases h with
  | handled src t h =>
    cases h with
    | nothing => exact hs
    | refused => simpa using hs
    | routed c t taken work => exact work.clockSound hs
  | selectFalls => obtain ⟨p, h⟩ := s.selectFalls_withPorts; rw [h]; exact hs
  | clockByte b => obtain ⟨p, h⟩ := s.clockByte_withPorts b; rw [h]; exact hs
  | startConfirmed key tempo duet rest p a confirmed =>
    exact ⟨confirmations (.start key tempo duet) (confirmed ▸ List.mem_cons_self), Nat.zero_le _⟩
  | cueLost => exact hs
  | retireConfirmed rest =>
    obtain ⟨p, stop⟩ := State.answerStop_withPorts
      (((((s.withQm { s.qm with toStage := rest }).withSc { s.sc with endTime := none }).showResult).raiseAll .songEnded))
    rw [stop]
    exact State.clockSound_showResult (s := (s.withQm { s.qm with toStage := rest }).withSc { s.sc with endTime := none }) hs
  | resetConfirmed => exact hs
  | advance => exact StageController.clockSound_advance hs
  | finalise => rw [State.finalise_sc]; exact hs
  | hold => exact hs
  | endResult => exact hs
  | saveEnd _ matched saving => obtain ⟨p, q, h, -⟩ := s.endSave_withPs matched saving; rw [h]; exact hs
  | resetBegins => exact hs
  | resetEnds => exact StageController.clockSound_afterReset
  | _ =>
    simpa [State.receive, State.shiftOut, State.finish, State.finishNotice, State.playSlot, State.loadDone,
      State.frameStart, State.sample, State.micClip] using hs

theorem Move.songSettingsInRange {i : Instr} {s t : State} (h : Move i s t) (hs : s.songSettingsInRange) :
    t.songSettingsInRange := by
  obtain ⟨entries, confirmations, settings, remainder⟩ := hs
  have clock := h.clockSound confirmations ⟨settings, remainder⟩
  refine ⟨?_, fun c hc => ?_, clock⟩
  · obtain ⟨queue, -⟩ | ⟨-, q, op, queue, -⟩ | ⟨-, reset⟩ := h.applied
    · rwa [queue]
    · rw [queue]
      have steps := op.steps
      clear op queue clock
      induction steps with
      | refl => exact entries
      | tail _ last kept => exact last.sound kept
    · rw [reset]; exact fun _ h => nomatch h
  · obtain old | ⟨e, he, rfl⟩ | new := h.confirmations c hc
    · exact confirmations c old
    · exact (entries e he).2.2.2
    · cases c with
      | start k p d => exact absurd rfl (new k p d)
      | cueLost | retire | reset => trivial

/-- Settles O9: each step of an operation keeps the entries sound, and each move the confirmations and the clock. -/
theorem songSettingsStayInRange : Obligations.SongSettingsStayInRange := by
  unfold Obligations.SongSettingsStayInRange
  exact fun s t hs run => step_keeps (fun _ _ h => h) (fun _ _ _ m h => m.songSettingsInRange h) run hs

end Sys2Proof.Machine
end

section
/-! PROOFS. The cue slots (R44, R51, R54): what a record and a frame of them leave of a load, and the slots move by move. -/

namespace Sys2Proof.Machine

/-! ### One record and a frame of records (R54, R55) -/

theorem RawRecord.clamp_le (r : RawRecord) : r.clamp.2 ≤ 2 := by
  have changed_le (a b : Nat) : changed a b ≤ 1 := by unfold changed; split <;> omega
  cases r with
  | line | mark => exact Nat.zero_le _
  | syl off dur count codes =>
    have := changed_le dur (clampNat 1 10000 dur)
    have := changed_le count (clampNat 1 5 count)
    show changed _ _ + changed _ _ ≤ 2
    omega
  | note st dur num part =>
    have := changed_le dur (clampNat 20 20000 dur)
    have := changed_le num (clampNat 36 96 num)
    show changed _ _ + changed _ _ ≤ 2
    omega

/-- The end time stands exactly from the END record on (R51, R54). -/
theorem ended_store {k : LoadTracking} {x : DerivedIndex} (place : Nat) (r : CueRecord)
    (before : k.ended = x.endTime.isSome) (notEnded : k.ended = false) :
    (k.after r).ended = (x.after place r).endTime.isSome := by
  cases r with
  | line | syl => exact before
  | note st dur num part => cases part <;> exact before
  | mark kind t =>
    by_cases finish : kind = .finish
    · simp [LoadTracking.after, DerivedIndex.after, finish]
    · simp [LoadTracking.after, DerivedIndex.after, finish, ← before, notEnded]

/-- A load that has its bounds but may have counted the clamps of a record it does not hold. -/
def Load.bounded (l : Load) : Prop := l.records.length ≤ 6144 ∧ l.clamps ≤ 12288

theorem Load.bounded_of_sound {l : Load} (h : l.sound) : l.bounded := by
  obtain ⟨records, -, clamps, -⟩ := h
  exact ⟨records, by omega⟩

/-- A record stored leaves a sound load, and one that fails a bounded one. -/
theorem Load.applyRecord_sound {l : Load} (h : l.sound) (raw : List Byte) :
    ((l.applyRecord raw).2 = none → (l.applyRecord raw).1.sound) ∧ (l.applyRecord raw).1.bounded := by
  have bounded := Load.bounded_of_sound h
  obtain ⟨records, remaining, clamps, ended⟩ := h
  unfold Load.applyRecord
  split
  · exact ⟨(nomatch ·), bounded⟩
  · next open' =>
    split
    · exact ⟨(nomatch ·), bounded⟩
    · next r decoded =>
      have counted : l.clampsWith r.clamp.2 ≤ 12288 := Nat.min_le_left _ _
      have two := r.clamp_le
      dsimp only
      split
      · exact ⟨(nomatch ·), records, counted⟩
      · split
        · exact ⟨(nomatch ·), records, counted⟩
        · next room =>
          simp only [Config.slotPlaces, Nat.not_le] at room
          have stored : (Load.store { l with clamps := l.clampsWith r.clamp.2 } r.clamp.1).sound := by
            refine ⟨by simp [Load.store]; omega, fun n hn => ?_, ?_, ended_store _ _ ended (by simpa using open')⟩
            · obtain ⟨m, hm, rfl⟩ := Option.map_eq_some_iff.1 hn
              have := remaining m hm
              simp [Load.store]
              omega
            · simp only [Load.store, Load.clampsWith, List.length_append, List.length_singleton]
              omega
          exact ⟨fun _ => stored, Load.bounded_of_sound stored⟩

/-- The load a frame of records leaves is bounded, and sound unless the load failed. -/
theorem Load.applyFrame_sound (raws : List (List Byte)) {l : Load} (h : l.sound) (accepted : Nat) :
    (l.applyFrame accepted raws).load.bounded
      ∧ ((l.applyFrame accepted raws).ending = .going → (l.applyFrame accepted raws).load.sound)
      ∧ ((l.applyFrame accepted raws).ending = .complete →
          (l.applyFrame accepted raws).load.index.endTime.isSome = true) := by
  induction raws generalizing l accepted with
  | nil => exact ⟨Load.bounded_of_sound h, fun _ => h, fun going => nomatch going⟩
  | cons raw raws ih =>
    have one := Load.applyRecord_sound h raw
    unfold Load.applyFrame
    split
    · next l' why he =>
      rw [he] at one
      exact ⟨one.2, (nomatch ·), (nomatch ·)⟩
    · next l' he =>
      rw [he] at one
      obtain ⟨sound, bounded⟩ := one
      have sound := sound rfl
      split
      · refine ⟨bounded, ?_, ?_⟩
        · dsimp only; split <;> exact (nomatch ·)
        · dsimp only
          split
          · next ended => exact fun _ => sound.2.2.2 ▸ ended
          · exact (nomatch ·)
      · exact ih sound (accepted + 1)

theorem Load.slotAfter_sound {l : Load} {e : LoadEnd} (bounded : l.bounded) (going : e = .going → l.sound)
    (complete : e = .complete → l.index.endTime.isSome = true) : (l.slotAfter e).sound := by
  obtain ⟨records, clamps⟩ := bounded
  cases e with
  | going => exact going rfl
  | complete => exact ⟨records, clamps, complete rfl⟩
  | failed why => exact ⟨records, clamps⟩

theorem Load.opened_sound (ticket : Nat) {count : Nat} (order : ByteOrder) (places : count ≤ 6144) :
    (Load.opened ticket count order).sound := by
  refine ⟨Nat.zero_le _, fun n hn => ?_, Nat.le_refl _, rfl⟩
  simp only [Load.opened] at hn
  split at hn
  · cases hn
  · obtain rfl := Option.some.inj hn
    simpa [Load.opened] using places

theorem Load.slotAfter_closing_sound {l : Load} (h : l.sound) : (l.slotAfter l.closing).sound := by
  refine Load.slotAfter_sound (Load.bounded_of_sound h) (fun _ => h) fun complete => ?_
  unfold Load.closing at complete
  split at complete
  · next ended => exact h.2.2.2 ▸ ended
  · split at complete <;> cases complete

/-! ### Both slots -/

theorem SongLoader.sound_iff (sl : SongLoader) : sl.sound ↔ ∀ n, (sl.get n).sound :=
  ⟨fun h n => by cases n <;> [exact h.1; exact h.2], fun h => ⟨h .a, h .b⟩⟩

theorem SongLoader.sound_set {sl : SongLoader} (h : sl.sound) {n : SlotName} {c : Slot} (hc : c.sound) :
    (sl.set n c).sound := by
  cases n with
  | a => exact ⟨hc, h.2⟩
  | b => exact ⟨h.1, hc⟩

theorem State.sound_dropSlots {s : State} (h : s.sl.sound) (test : Slot → Bool) : (s.dropSlots test).sl.sound := by
  rw [SongLoader.sound_iff] at h ⊢
  intro n
  rw [State.dropSlots_slot]
  split
  · trivial
  · exact h n

theorem State.sound_applyDrop {s : State} (h : s.sl.sound) (d : SlotDrop) : (s.applyDrop d).sl.sound := by
  cases d with
  | none => exact h
  | lost t => exact State.sound_dropSlots h _
  | given t => exact State.sound_dropSlots h _

theorem Slot.sound_begin {c : Slot} (h : c.sound) (ticket : Nat) : (c.begin ticket).sound := by
  cases c with
  | loaded g =>
    simp only [Slot.begin]
    split <;> exact h
  | empty | loading | failed | playing => exact h

/-- The SL after the work of a command: the QM's, the stage's and the ports' commands leave it. -/
theorem Work.sound_sl {src : Source} {c : Command} {s t : State} (h : Work src c s t) (hs : s.sl.sound) : t.sl.sound := by
  cases h with
  | loadOpen s ticket count order a places cued =>
    exact SongLoader.sound_set hs (Load.opened_sound ticket order places)
  | loadData => exact hs
  | loadClose s n l a loading =>
    have closed := SongLoader.sound_set (n := n) hs
      (Load.slotAfter_closing_sound (l := l) (by
        have := (SongLoader.sound_iff _).1 hs n
        rwa [SongLoader.get_of_loadingSlot loading] at this))
    simpa [State.loadDone] using closed
  | loadAbort s n a target => exact SongLoader.sound_set hs trivial
  | _ =>
    simpa [State.stageChangedIf, State.beginStart, State.finalise, State.setTime, State.endIf, State.endResult,
      State.beginReset] using hs

theorem Move.sound_sl {i : Instr} {s t : State} (h : Move i s t) (hs : s.sl.sound) : t.sl.sound := by
  cases h with
  | handled src t h =>
    cases h with
    | nothing => exact hs
    | refused => simpa using hs
    | routed c t taken work => exact work.sound_sl hs
  | selectFalls => obtain ⟨p, h⟩ := s.selectFalls_withPorts; rw [h]; exact hs
  | clockByte b => obtain ⟨p, h⟩ := s.clockByte_withPorts b; rw [h]; exact hs
  | editEnd | takeNextEnd => 
    rw [State.finish, State.arbitrate_sl, State.answer_sl, State.noteChange_sl]
    exact State.sound_applyDrop (by exact hs) _
  | startEnd e =>
    rw [State.finishNotice, State.arbitrate_sl, State.noteChange_sl]
    exact ⟨Slot.sound_begin hs.1 _, Slot.sound_begin hs.2 _⟩
  | startLost => simpa [State.finishNotice] using hs
  | retireEnd | resetEnd =>
    rw [State.finishNotice, State.arbitrate_sl, State.noteChange_sl]
    exact State.sound_dropSlots (by exact hs) _
  | loadDataEnd n bytes l r a inFlight loading applied =>
    have before : l.sound := by
      have := (SongLoader.sound_iff _).1 hs n
      rwa [loading] at this
    obtain ⟨bounded, going, complete⟩ := Load.applyFrame_sound (recordsOf bytes) before 0
    rw [applied] at bounded going complete
    have ended := SongLoader.sound_set (n := n) hs (Load.slotAfter_sound bounded going complete)
    have same : (((s.withSl { s.sl.set n (r.load.slotAfter r.ending) with inFlight := none }).loadDone r.ending).answer
        .player .loadData a).sl = { s.sl.set n (r.load.slotAfter r.ending) with inFlight := none } := by
      simp [State.loadDone]
    rw [same]
    exact ended
  | startConfirmed => exact hs
  | cueLost => exact hs
  | retireConfirmed rest =>
    obtain ⟨p, stop⟩ := State.answerStop_withPorts
      (((((s.withQm { s.qm with toStage := rest }).withSc { s.sc with endTime := none }).showResult).raiseAll .songEnded))
    rw [stop]
    obtain ⟨-, h⟩ | ⟨-, -, h⟩ | ⟨-, -, h⟩ := State.showResult_cases
      ((s.withQm { s.qm with toStage := rest }).withSc { s.sc with endTime := none }) <;>
    · rw [State.withPorts_sl, State.raiseAll_sl, h]
      exact hs
  | saveEnd _ matched saving => obtain ⟨p, q, h, -⟩ := s.endSave_withPs matched saving; rw [h]; exact hs
  | resetBegins => exact hs
  | resetEnds => exact ⟨trivial, trivial⟩
  | _ =>
    simpa [State.receive, State.shiftOut, State.finalise, State.endResult, State.frameStart, State.sample,
      State.micClip] using hs

/-- Settles O10: every move keeps both slots sound. -/
theorem slotsStaySound : Obligations.SlotsStaySound := by
  unfold Obligations.SlotsStaySound
  exact fun s t hs run => step_keeps (P := fun u => u.sl.sound) (fun _ _ h => h) (fun _ _ _ m h => m.sound_sl h) run hs

end Sys2Proof.Machine
end

section
/-! PROOFS. The scores and the pitch reports (R86 to R103): the bounds of a lane and of the PT under each of their operations,
and then move by move. -/

namespace Sys2Proof.Machine

/-! ### A lane (R99 to R102) -/

theorem streakAfter_le (streak : Nat) (g : Grade) : streakAfter streak g ≤ streak + 1 := by
  cases g <;> simp [streakAfter]

theorem GradeCounts.sum_add (c : GradeCounts) (g : Grade) :
    (c.add g).perfect + (c.add g).good + (c.add g).fair + (c.add g).miss = c.perfect + c.good + c.fair + c.miss + 1 := by
  cases g <;> simp only [GradeCounts.add] <;> omega

theorem appendRecent_length {r : List (Nat × Grade)} (h : r.length ≤ 16) (p : Nat × Grade) :
    (appendRecent r p).length ≤ 16 := by
  unfold appendRecent
  split <;> simp <;> omega

/-- The quality of a frame is at most 8 (R98). -/
theorem frameQuality_le (tolerance : Nat) (fold : Bool) (report : PitchReport) (number : Nat) :
    frameQuality tolerance fold report number ≤ 8 := by
  unfold frameQuality
  split
  · omega
  · dsimp only
    split
    · omega
    · next far =>
      split
      · refine Nat.div_le_of_le_mul ?_
        rw [Nat.mul_comm tolerance 8]
        exact Nat.mul_le_mul_left 8 (by omega)
      · omega

theorem ScoreLane.full_iff (k : ScoreLane) (n : OpenNote) :
    k.full n = true ↔ 6144 ≤ k.graded ∨ 131071 < k.frameCount + n.frames := by
  rw [ScoreLane.full, Bool.or_eq_true, decide_eq_true_eq, decide_eq_true_eq]
  exact Iff.rfl

theorem ScoreLane.sound_closed {k : ScoreLane} (h : k.sound) : ScoreLane.sound { k with openNote := none } := by
  obtain ⟨hits, frames, graded, counts, streak, most, recent, -⟩ := h
  exact ⟨hits, frames, graded, counts, streak, most, recent, fun _ h => nomatch h⟩

theorem ScoreLane.sound_close {k : ScoreLane} (h : k.sound) : k.close.sound := by
  unfold ScoreLane.close
  split
  · exact h
  · next n note =>
    split
    · exact ScoreLane.sound_closed h
    · next room =>
      obtain ⟨hits, frames, graded, counts, streak, most, recent, open'⟩ := h
      obtain ⟨-, noteHits⟩ := open' n note
      have step := streakAfter_le k.streak n.grade
      rw [ScoreLane.full_iff, not_or, Nat.not_le, Nat.not_lt] at room
      refine ⟨?_, room.2, ?_, ?_, ?_, ?_, appendRecent_length recent _, fun _ h => nomatch h⟩
      · dsimp only; omega
      · exact room.1
      · rw [GradeCounts.sum_add, counts]
      · exact Nat.le_max_right _ _
      · dsimp only; omega

/-- A close leaves no open note. -/
theorem ScoreLane.close_openNote (k : ScoreLane) : k.close.openNote = none := by
  unfold ScoreLane.close
  split
  · assumption
  · split <;> rfl

theorem ScoreLane.sound_score {k : ScoreLane} (h : k.sound) (active : Option NoteAt) {quality : NoteAt → Nat}
    (eight : ∀ n, quality n ≤ 8) : (k.score active quality).sound := by
  have closed : (if k.leaves active then k.close else k).sound := by
    split
    · exact ScoreLane.sound_close h
    · exact h
  unfold ScoreLane.score
  dsimp only
  generalize (if k.leaves active then k.close else k) = c at closed
  split
  · exact closed
  · next n =>
    obtain ⟨hits, frames, graded, counts, streak, most, recent, open'⟩ := closed
    refine ⟨hits, frames, graded, counts, streak, most, recent, fun o ho => ?_⟩
    obtain rfl := Option.some.inj ho
    have bound := eight n
    cases hc : c.openNote with
    | none => simp only [OpenNote.count, NoteAt.opened, Option.getD_none]; omega
    | some o =>
      have := open' o hc
      simp only [OpenNote.count, Option.getD_some]
      omega

/-! ### The SU -/

theorem ScoreUnit.sound_iff (u : ScoreUnit) : u.sound ↔ ∀ l, (u.lanes.get l).sound :=
  ⟨fun h l => by cases l <;> [exact h.1; exact h.2], fun h => ⟨h .zero, h .one⟩⟩

/-- A change of both lanes that keeps each sound. -/
theorem ScoreUnit.sound_map {u : ScoreUnit} (h : u.sound) {f : Lane → ScoreLane → ScoreLane}
    (kept : ∀ l k, k.sound → (f l k).sound) : ScoreUnit.sound { u with lanes := u.lanes.map f } :=
  ⟨kept .zero _ h.1, kept .one _ h.2⟩

theorem ScoreLane.sound_afterReset : ScoreLane.afterReset.sound := by
  simp [ScoreLane.sound, ScoreLane.afterReset]

theorem ScoreUnit.sound_closeNotes {u : ScoreUnit} (h : u.sound) : u.closeNotes.sound :=
  ScoreUnit.sound_map h fun _ _ => ScoreLane.sound_close

theorem ScoreUnit.sound_discardNotes {u : ScoreUnit} (h : u.sound) : u.discardNotes.sound :=
  ScoreUnit.sound_map h fun _ _ => ScoreLane.sound_closed

theorem ScoreUnit.sound_seek {u : ScoreUnit} (h : u.sound) (t : Nat) : (u.seek t).sound :=
  ScoreUnit.sound_map h fun _ _ => ScoreLane.sound_closed

theorem State.sound_takeReports {s : State} (h : s.su.sound) : s.takeReports.sound := by
  unfold State.takeReports
  split
  · exact h
  · split
    · refine ScoreUnit.sound_map h fun l k hk => ?_
      split
      · exact ScoreLane.sound_score (k := k.engage _) hk _ fun _ => frameQuality_le _ _ _ _
      · exact hk
    · exact h

theorem State.finalise_su (s : State) (kind : EndKind) : (s.finalise kind).su = s.su.closeNotes := by
  simp [State.finalise]

theorem State.sound_setTime_su {s : State} (h : s.su.sound) (t : Nat) : (s.setTime t).su.sound := by
  unfold State.setTime
  split
  · exact ScoreUnit.sound_seek h t
  · exact h

theorem Work.sound_su {src : Source} {c : Command} {s t : State} (h : Work src c s t) (hs : s.su.sound) : t.su.sound := by
  cases h with
  | stop => rw [State.finalise_su]; exact ScoreUnit.sound_closeNotes hs
  | stageReset => rw [State.beginReset, State.arrive_su]; exact ScoreUnit.sound_discardNotes hs
  | sync s time ended =>
    have timed := State.sound_setTime_su hs time
    rw [State.answer_su, State.endIf]
    split
    · rw [State.finalise_su]; exact ScoreUnit.sound_closeNotes timed
    · exact timed
  | _ => simpa [State.loadDone, State.stageChangedIf, State.beginStart, State.endResult] using hs

theorem State.showResult_su (s : State) : s.showResult.su = s.su := by
  obtain ⟨-, h⟩ | ⟨-, -, h⟩ | ⟨-, -, h⟩ := s.showResult_cases <;> rw [h] <;> rfl

theorem Move.sound_su {i : Instr} {s t : State} (h : Move i s t) (hs : s.su.sound) : t.su.sound := by
  cases h with
  | handled src t h =>
    cases h with
    | nothing => exact hs
    | refused => simpa using hs
    | routed c t taken work => exact work.sound_su hs
  | selectFalls => obtain ⟨p, h⟩ := s.selectFalls_withPorts; rw [h]; exact hs
  | clockByte b => obtain ⟨p, h⟩ := s.clockByte_withPorts b; rw [h]; exact hs
  | startConfirmed => exact ⟨ScoreLane.sound_afterReset, ScoreLane.sound_afterReset⟩
  | retireConfirmed rest =>
    obtain ⟨p, stop⟩ := State.answerStop_withPorts
      (((((s.withQm { s.qm with toStage := rest }).withSc { s.sc with endTime := none }).showResult).raiseAll .songEnded))
    rw [stop, State.withPorts_su, State.raiseAll_su, State.showResult_su]
    exact hs
  | finalise => rw [State.finalise_su]; exact ScoreUnit.sound_closeNotes hs
  | sample x =>
    unfold State.sample
    dsimp only
    split
    · exact hs
    · exact State.sound_takeReports (by simpa [State.micClip] using hs)
  | saveEnd _ matched saving => obtain ⟨p, q, h, -⟩ := s.endSave_withPs matched saving; rw [h]; exact hs
  | resetEnds => exact ⟨ScoreLane.sound_afterReset, ScoreLane.sound_afterReset⟩
  | _ =>
    simpa [State.receive, State.shiftOut, State.finish, State.finishNotice, State.playSlot, State.loadDone,
      State.endResult, State.frameStart] using hs

/-! ### The PT (R86 to R91) -/

theorem frameLevel_range (x : List Int) : -90 ≤ frameLevel x ∧ frameLevel x ≤ 0 := by
  unfold frameLevel
  cases h : (List.range 91).find? (levelAtLeast (squareSum x)) with
  | none => simp
  | some m =>
    have := List.mem_range.1 (List.mem_of_find?_eq_some h)
    simp only [Option.getD_some]
    omega

/-- A search stays between its bounds. -/
theorem searchLast_range (test : Nat → Bool) (n : Nat) {lo hi : Nat} (h : lo < hi) :
    lo ≤ searchLast test n lo hi ∧ searchLast test n lo hi < hi := by
  induction n generalizing lo hi with
  | zero => exact ⟨Nat.le_refl _, h⟩
  | succ n ih =>
    unfold searchLast
    split
    · exact ⟨Nat.le_refl _, h⟩
    · split
      · have := ih (lo := (lo + hi) / 2) (hi := hi) (by omega)
        omega
      · have := ih (lo := lo) (hi := (lo + hi) / 2) (by omega)
        omega

theorem RefinedPeriod.pitch_range {r : RefinedPeriod} {p : Int} (h : r.pitch = some p) : 3600 ≤ p ∧ p ≤ 9600 := by
  unfold RefinedPeriod.pitch at h
  dsimp only at h
  split at h
  · obtain rfl := Option.some.inj h
    generalize pitchAtLeast _ _ _ = test
    have := searchLast_range test 14 (lo := 3600) (hi := 9601) (by omega)
    omega
  · cases h

theorem sungPitch_range {threshold : Int} {previous current : List Int} {p : Int}
    (h : sungPitch threshold previous current = some p) : 3600 ≤ p ∧ p ≤ 9600 := by
  unfold sungPitch at h
  split at h
  · cases h
  · dsimp only at h
    split at h
    · exact RefinedPeriod.pitch_range h
    · cases h

theorem pitchReport_sound (threshold : Int) {key : Int} (low : -6 ≤ key) (high : key ≤ 6) (previous current : List Sample) :
    (pitchReport threshold key previous current).sound :=
  ⟨(frameLevel_range _).1, (frameLevel_range _).2, low, high, fun _ h => sungPitch_range h⟩

/-! ### The microphone receiver (R86) -/

theorem I2sReceiver.take_bits (r : I2sReceiver) (x : Sample) : (r.take x).1.bits = r.bits := by
  unfold I2sReceiver.take
  split <;> rfl

theorem I2sReceiver.data_bits {r : I2sReceiver} (h : r.bits.length ≤ 16) (bit : Bool) :
    (r.data bit).1.bits.length ≤ 16 := by
  unfold I2sReceiver.data
  split
  · exact h
  · next room =>
    have short : r.bits.length < 16 := by omega
    dsimp only
    split
    · rw [I2sReceiver.take_bits]; simp; omega
    · simp; omega

theorem I2sReceiver.edge_bits {r : I2sReceiver} (h : r.bits.length ≤ 16) (e : BitClockEdge) :
    (r.edge e).1.bits.length ≤ 16 := by
  unfold I2sReceiver.edge
  dsimp only
  split
  · exact Nat.zero_le _
  · exact I2sReceiver.data_bits h e.bit

/-! ### The PT move by move -/

theorem PitchTracker.sound_received {p : PitchTracker} (h : p.sound) {r : I2sReceiver} (bits : r.bits.length ≤ 16)
    {key : Int} (low : -6 ≤ key) (high : key ≤ 6) : (p.received r key).sound := by
  obtain ⟨progress, latchedLow, latchedHigh, -, lanes⟩ := h
  refine ⟨progress, ?_, ?_, bits, lanes⟩ <;> simp only [PitchTracker.received] <;> split <;> assumption

theorem PitchTracker.sound_complete {p : PitchTracker} (h : p.sound) {all : List StereoSample} (length : all.length = 480)
    (threshold : Int) {key : Int} (low : -6 ≤ key) (high : key ≤ 6) : (p.complete threshold key all).sound := by
  obtain ⟨-, latchedLow, latchedHigh, bits, -⟩ := h
  refine ⟨by simp [PitchTracker.complete, Config.frameSamples, length], low, high, bits, fun l => ?_⟩
  have frame (l : Lane) : (laneSamples l (all.take Config.frameSamples)).length = 480 := by
    simp [laneSamples, Config.frameSamples, length]
  have previous : ((p.complete threshold key all).lanes.get l).previous = laneSamples l (all.take Config.frameSamples) := by
    cases l <;> rfl
  refine ⟨previous ▸ frame l, fun r hr => ?_⟩
  have newest : r = pitchReport threshold p.latchedKey (p.lanes.get l).previous
      (laneSamples l (all.take Config.frameSamples)) := by
    cases l <;> exact (Option.some.inj hr).symm
  rw [newest]
  exact pitchReport_sound _ latchedLow latchedHigh _ _

theorem PitchTracker.sound_afterReset : PitchTracker.afterReset.sound := by
  refine ⟨by decide, by decide, by decide, by decide, fun l => ?_⟩
  cases l <;> exact ⟨List.length_replicate, fun _ h => nomatch h⟩

theorem Work.pt {src : Source} {c : Command} {s t : State} (h : Work src c s t) : t.pt = s.pt := by
  cases h <;>
    simp [State.loadDone, State.stageChangedIf, State.beginStart, State.endResult, State.finalise, State.setTime,
      State.endIf, State.beginReset]

theorem Move.sound_pt {i : Instr} {s t : State} (h : Move i s t) (low : -6 ≤ s.sc.key) (high : s.sc.key ≤ 6)
    (hs : s.pt.sound) : t.pt.sound := by
  cases h with
  | handled src t h =>
    cases h with
    | nothing => exact hs
    | refused => simpa using hs
    | routed c t taken work => rw [work.pt]; exact hs
  | selectFalls => obtain ⟨p, h⟩ := s.selectFalls_withPorts; rw [h]; exact hs
  | clockByte b => obtain ⟨p, h⟩ := s.clockByte_withPorts b; rw [h]; exact hs
  | retireConfirmed rest =>
    obtain ⟨p, stop⟩ := State.answerStop_withPorts
      (((((s.withQm { s.qm with toStage := rest }).withSc { s.sc with endTime := none }).showResult).raiseAll .songEnded))
    rw [stop]
    obtain ⟨-, h⟩ | ⟨-, -, h⟩ | ⟨-, -, h⟩ := State.showResult_cases
      ((s.withQm { s.qm with toStage := rest }).withSc { s.sc with endTime := none }) <;>
    · rw [State.withPorts_pt, State.raiseAll_pt, h]
      exact hs
  | received e =>
    exact PitchTracker.sound_received hs (I2sReceiver.edge_bits hs.2.2.2.1 e) low high
  | sample x =>
    unfold State.sample
    dsimp only
    split
    · next short => exact ⟨short, hs.2⟩
    · next full =>
      have progress := hs.1
      rw [State.withSu_pt, State.withPt_pt]
      refine PitchTracker.sound_complete hs ?_ _ low high
      simp only [Config.frameSamples, List.length_append, List.length_singleton] at full ⊢
      omega
  | saveEnd _ matched saving => obtain ⟨p, q, h, -⟩ := s.endSave_withPs matched saving; rw [h]; exact hs
  | resetEnds => exact PitchTracker.sound_afterReset
  | _ =>
    simpa [State.receive, State.shiftOut, State.finish, State.finishNotice, State.playSlot, State.loadDone,
      State.endResult, State.frameStart, State.songStart, State.finalise] using hs

end Sys2Proof.Machine
end

section
/-! PROOFS. The lyric zone (chapter 6): the rows a layout takes, what a rebuild and the stages of a frame start leave of the
stack and of the stopping counts, and then the zone move by move. -/

namespace Sys2Proof.Machine

/-! ### Rows (R114 to R116) -/

theorem rowsHeld_append (a b : List ShownLine) : rowsHeld (a ++ b) = rowsHeld a + rowsHeld b := by
  simp [rowsHeld]

theorem rowsHeld_cons (l : ShownLine) (stack : List ShownLine) : rowsHeld (l :: stack) = l.rows + rowsHeld stack := by
  simp [rowsHeld]

/-- A line takes one row, or two where the zone has two. -/
theorem Geometry.layOut_rows (g : Geometry) (ys : List Syllable) :
    (g.layOut ys).rows = 1 ∨ ((g.layOut ys).rows = 2 ∧ 2 ≤ g.rows) := by
  unfold Geometry.layOut
  split
  · exact .inl rfl
  · split
    · exact .inl rfl
    · dsimp only
      split
      · exact .inl rfl
      · exact .inr ⟨rfl, by omega⟩

theorem LyricInputs.layOut_rows_pos (i : LyricInputs) (table : List GlyphPlace) (number : Nat) :
    1 ≤ (i.layOut table number).rows := by
  unfold LyricInputs.layOut
  split
  · next e _ => obtain h | ⟨h, -⟩ := i.geometry.layOut_rows (i.song.syllables table e) <;> omega
  · exact Nat.le_refl 1

/-- With an effective row, every line fits an empty zone. -/
theorem LyricInputs.layOut_rows_le (i : LyricInputs) (table : List GlyphPlace) (number : Nat)
    (some : i.geometry.noRows = false) : (i.layOut table number).rows ≤ i.geometry.rows := by
  have one : 1 ≤ i.geometry.rows := by
    simp only [Geometry.noRows, beq_eq_false_iff_ne] at some
    omega
  unfold LyricInputs.layOut
  split
  · next e _ => obtain h | ⟨h, two⟩ := i.geometry.layOut_rows (i.song.syllables table e) <;> omega
  · exact one

/-! ### The stages of a frame start (R118 to R125) -/

theorem LyricRenderer.join_rowsHeld (r : LyricRenderer) (i : LyricInputs) (number : Nat) (lay : LineLayout) :
    rowsHeld (r.join i number lay).stack = rowsHeld r.stack + lay.rows := by
  simp [LyricRenderer.join, LyricInputs.shown, rowsHeld]

theorem LyricRenderer.scrollStage_stack (r : LyricRenderer) (i : LyricInputs) : (r.scrollStage i).stack = r.stack := by
  unfold LyricRenderer.scrollStage
  split
  · rfl
  · split <;> rfl

theorem LyricRenderer.leaveStage_rowsHeld (r : LyricRenderer) (i : LyricInputs) :
    rowsHeld (r.leaveStage i).stack ≤ rowsHeld r.stack := by
  have marked : rowsHeld (i.markSpent r.stack) = rowsHeld r.stack := by
    simp [rowsHeld, LyricInputs.markSpent, Function.comp_def]
  have left : rowsHeld ((i.markSpent r.stack).dropWhile (fun l => l.spent)) ≤ rowsHeld (i.markSpent r.stack) := by
    have whole := congrArg rowsHeld
      (List.takeWhile_append_dropWhile (p := fun l : ShownLine => l.spent) (l := i.markSpent r.stack))
    rw [rowsHeld_append] at whole
    omega
  rw [marked] at left
  unfold LyricRenderer.leaveStage
  dsimp only
  split <;> exact left

/-- Lines that leave by force leave room, or none is left. -/
theorem LyricInputs.evict_rowsHeld (i : LyricInputs) (need : Nat) (stack : List ShownLine)
    (some : 1 ≤ need) (fits : need ≤ i.geometry.rows) : rowsHeld (i.evict need stack) + need ≤ i.geometry.rows := by
  induction stack with
  | nil => simpa [LyricInputs.evict, rowsHeld] using fits
  | cons l rest ih =>
    unfold LyricInputs.evict
    split
    · next room =>
      unfold LyricInputs.freeRows at room
      omega
    · exact ih

/-- Placing lines, by room and by force, keeps the stack within the rows. -/
theorem LyricRenderer.place_rowsHeld (i : LyricInputs) (some : i.geometry.noRows = false) (numbers : List Nat)
    {r : LyricRenderer} (h : rowsHeld r.stack ≤ i.geometry.rows) :
    rowsHeld (r.place i numbers).stack ≤ i.geometry.rows := by
  induction numbers generalizing r with
  | nil => exact h
  | cons n rest ih =>
    unfold LyricRenderer.place
    dsimp only
    split
    · next room =>
      split
      · refine ih ?_
        rw [LyricRenderer.join_rowsHeld]
        unfold LyricInputs.freeRows at room
        omega
      · exact h
    · split
      · refine ih ?_
        rw [LyricRenderer.join_rowsHeld]
        exact i.evict_rowsHeld _ _ (i.layOut_rows_pos _ _) (i.layOut_rows_le _ _ some)
      · exact h

theorem LyricRenderer.schedule_rowsHeld {r : LyricRenderer} {i : LyricInputs} (h : rowsHeld r.stack ≤ i.geometry.rows) :
    rowsHeld (r.schedule i).stack ≤ i.geometry.rows := by
  have left : rowsHeld ((((r.scrollStage i).leaveStage i).dueStage i).dropStage i).stack ≤ i.geometry.rows := by
    refine (LyricRenderer.leaveStage_rowsHeld _ i).trans ?_
    rwa [LyricRenderer.scrollStage_stack]
  unfold LyricRenderer.schedule LyricRenderer.placeStage
  split
  · exact left
  · next placing =>
    refine LyricRenderer.place_rowsHeld i ?_ _ left
    simp only [Bool.or_eq_true, not_or, Bool.not_eq_true] at placing
    exact placing.2

/-! ### A rebuild (R128) -/

theorem LyricInputs.takeBack_rows (i : LyricInputs) (table : List GlyphPlace) (numbers : List Nat) (left : Nat)
    (taken : List (Nat × LineLayout)) :
    ((i.takeBack table left numbers taken).map (fun x => x.2.rows)).sum ≤ left + (taken.map (fun x => x.2.rows)).sum := by
  induction numbers generalizing left taken with
  | nil => exact Nat.le_add_left _ _
  | cons n rest ih =>
    unfold LyricInputs.takeBack
    dsimp only
    split
    · refine (ih _ _).trans ?_
      simp only [List.map_cons, List.sum_cons]
      omega
    · exact Nat.le_add_left _ _

theorem LyricRenderer.foldl_join_rowsHeld (i : LyricInputs) (taken : List (Nat × LineLayout)) (r : LyricRenderer) :
    rowsHeld (taken.foldl (fun acc x => acc.join i x.1 x.2) r).stack
      = rowsHeld r.stack + (taken.map (fun x => x.2.rows)).sum := by
  induction taken generalizing r with
  | nil => rfl
  | cons x rest ih =>
    rw [List.foldl_cons, ih, LyricRenderer.join_rowsHeld, List.map_cons, List.sum_cons]
    omega

theorem LyricRenderer.rebuild_rowsHeld (r : LyricRenderer) (i : LyricInputs) :
    rowsHeld (r.rebuild i).stack ≤ i.geometry.rows := by
  have rows := i.takeBack_rows r.glyphs i.candidates.reverse i.geometry.rows []
  unfold LyricRenderer.rebuild
  dsimp only
  rw [LyricRenderer.foldl_join_rowsHeld]
  simpa [rowsHeld] using rows

/-! ### The mode, the glyphs and the counts (R110 to R113) -/

/-- What the joins of lines keep: the mode, the glyph table and the count of dropped lines, and the two counts a join adds to
within their bounds. -/
structure LyricRenderer.Joined (r q : LyricRenderer) : Prop where
  mode : q.mode = r.mode
  glyphs : q.glyphs = r.glyphs
  sound : r.sound → q.sound

theorem LyricRenderer.Joined.refl (r : LyricRenderer) : r.Joined r := ⟨rfl, rfl, id⟩

theorem LyricRenderer.Joined.trans {p q r : LyricRenderer} (h : p.Joined q) (k : q.Joined r) : p.Joined r :=
  ⟨k.mode.trans h.mode, k.glyphs.trans h.glyphs, fun s => k.sound (h.sound s)⟩

theorem stopCount_le (n : Nat) : stopCount n ≤ 65535 := Nat.min_le_left _ _

theorem LyricRenderer.join_joined (r : LyricRenderer) (i : LyricInputs) (number : Nat) (lay : LineLayout) :
    r.Joined (r.join i number lay) := by
  refine ⟨rfl, rfl, fun ⟨glyphs, missing, overflow, dropped⟩ => ⟨glyphs, stopCount_le _, ?_, dropped⟩⟩
  simp only [LyricRenderer.join, LyricRenderer.countLayout]
  split
  · exact stopCount_le _
  · exact overflow

theorem LyricRenderer.place_joined (i : LyricInputs) (numbers : List Nat) (r : LyricRenderer) :
    r.Joined (r.place i numbers) := by
  induction numbers generalizing r with
  | nil => exact ⟨rfl, rfl, id⟩
  | cons n rest ih =>
    unfold LyricRenderer.place
    dsimp only
    split
    · split
      · exact (r.join_joined i n _).trans (ih _)
      · exact ⟨rfl, rfl, id⟩
    · split
      · have forced : r.Joined
            { r with scroll := none, pendingShift := 0, stack := i.evict (i.layOut r.glyphs n).rows r.stack } := ⟨rfl, rfl, id⟩
        exact (forced.trans (LyricRenderer.join_joined _ i n _)).trans (ih _)
      · exact ⟨rfl, rfl, id⟩

theorem LyricRenderer.schedule_joined (r : LyricRenderer) (i : LyricInputs) : r.Joined (r.schedule i) := by
  have scrolled : r.Joined (r.scrollStage i) := by
    unfold LyricRenderer.scrollStage
    split
    · exact .refl r
    · split <;> exact ⟨rfl, rfl, id⟩
  have left (q : LyricRenderer) : q.Joined (q.leaveStage i) := by
    unfold LyricRenderer.leaveStage
    dsimp only
    split <;> exact ⟨rfl, rfl, id⟩
  have due (q : LyricRenderer) : q.Joined (q.dueStage i) := ⟨rfl, rfl, id⟩
  have dropped (q : LyricRenderer) : q.Joined (q.dropStage i) :=
    ⟨rfl, rfl, fun ⟨glyphs, missing, overflow, _⟩ => ⟨glyphs, missing, overflow, stopCount_le _⟩⟩
  have placed (q : LyricRenderer) : q.Joined (q.placeStage i) := by
    unfold LyricRenderer.placeStage
    split
    · exact .refl q
    · exact LyricRenderer.place_joined i _ q
  exact (((scrolled.trans (left _)).trans (due _)).trans (dropped _)).trans (placed _)

theorem LyricRenderer.foldl_join_joined (i : LyricInputs) (taken : List (Nat × LineLayout)) (r : LyricRenderer) :
    r.Joined (taken.foldl (fun acc x => acc.join i x.1 x.2) r) := by
  induction taken generalizing r with
  | nil => exact .refl r
  | cons x rest ih => exact (r.join_joined i x.1 x.2).trans (ih _)

theorem LyricRenderer.rebuild_joined (r : LyricRenderer) (i : LyricInputs) : r.Joined (r.rebuild i) := by
  have emptied : r.Joined
      { r with stack := [], waiting := [], scroll := none, pendingShift := 0, nextLine := i.firstNotDue } := ⟨rfl, rfl, id⟩
  exact emptied.trans (LyricRenderer.foldl_join_joined i _ _)

theorem LyricRenderer.buildCard_joined (r : LyricRenderer) (g : Geometry) (newest : Option HistoryRecord) :
    r.Joined (r.buildCard g newest) :=
  ⟨rfl, rfl, fun ⟨glyphs, _, overflow, dropped⟩ => ⟨glyphs, stopCount_le _, overflow, dropped⟩⟩

theorem LyricRenderer.sound_songStart {r : LyricRenderer} (h : r.sound) (i : LyricInputs) : (r.songStart i).sound := by
  obtain ⟨glyphs, missing, -, -⟩ := h
  exact (LyricRenderer.rebuild_joined _ i).sound ⟨glyphs, missing, Nat.zero_le _, Nat.zero_le _⟩

/-! ### A frame start (R115, R118) -/

theorem State.relayout_joined (s : State) (k : LayoutKey) : s.lr.Joined (s.relayout k).lr := by
  unfold State.relayout
  split
  · exact .refl _
  · split
    · exact s.lr.rebuild_joined _
    · exact s.lr.buildCard_joined _ _
    · exact .refl _

theorem State.lyricFrame_joined (s : State) (k : LayoutKey) : s.lr.Joined (s.lyricFrame k).lr := by
  refine (s.relayout_joined k).trans ?_
  unfold State.lyricFrame
  dsimp only
  generalize s.relayout k = u
  split
  · have scheduled : u.lr.Joined
        (if u.sc.stage == .playing then u.lr.schedule (u.lyricInputs u.sc.songTime) else u.lr) := by
      split
      · exact u.lr.schedule_joined _
      · exact .refl _
    exact scheduled.trans ⟨rfl, rfl, id⟩
  · exact ⟨rfl, rfl, id⟩

/-- The stack holds no more than these rows, and nothing outside the ROWS mode. -/
def LyricRenderer.fits (r : LyricRenderer) (rows : Nat) : Prop :=
  (r.mode ≠ .rows → r.stack = []) ∧ rowsHeld r.stack ≤ rows

theorem LyricRenderer.fits_of_empty {r : LyricRenderer} (h : r.stack = []) (rows : Nat) : r.fits rows :=
  ⟨fun _ => h, by rw [h]; exact Nat.zero_le rows⟩

theorem LyricRenderer.fits_rebuild {r : LyricRenderer} {i : LyricInputs} (h : r.mode = .rows) :
    (r.rebuild i).fits i.geometry.rows :=
  ⟨fun other => absurd ((r.rebuild_joined i).mode.trans h) other, r.rebuild_rowsHeld i⟩

/-- The effective row count is one of the layout values (R114, R115). -/
theorem VideoCompositor.rows_of_layoutKey {v w : VideoCompositor} (h : v.layoutKey = w.layoutKey) :
    v.geometry.rows = w.geometry.rows := by
  obtain ⟨-, hl, rows, gap, -⟩ := LayoutKey.mk.inj h
  show v.live.effectiveRows = w.live.effectiveRows
  unfold FrameSettings.effectiveRows FrameSettings.pitch
  rw [hl, rows, gap]

theorem State.relayout_fits {s : State} {v : VideoCompositor} (h : s.lr.fits v.geometry.rows) :
    (s.relayout v.layoutKey).lr.fits s.vc.geometry.rows := by
  unfold State.relayout
  split
  · next same => rwa [VideoCompositor.rows_of_layoutKey same]
  · split
    · next mode => exact LyricRenderer.fits_rebuild (i := s.lyricInputs s.sc.songTime) mode
    · next mode => exact LyricRenderer.fits_of_empty (h.1 (by simp [mode])) _
    · next mode => exact LyricRenderer.fits_of_empty (h.1 (by simp [mode])) _

theorem State.lyricFrame_fits {s : State} {v : VideoCompositor} (h : s.lr.fits v.geometry.rows) :
    (s.lyricFrame v.layoutKey).lr.fits s.vc.geometry.rows := by
  have laid := State.relayout_fits (s := s) h
  have vc := s.relayout_vc v.layoutKey
  unfold State.lyricFrame
  dsimp only
  generalize s.relayout v.layoutKey = u at laid vc
  rw [← vc] at laid ⊢
  split
  · next mode =>
    have scheduled : rowsHeld (u.lr.rowsFrame (u.lyricInputs u.sc.songTime) (u.sc.stage == .playing)).stack
        ≤ u.vc.geometry.rows := by
      unfold LyricRenderer.rowsFrame
      dsimp only
      split
      · exact LyricRenderer.schedule_rowsHeld (i := u.lyricInputs u.sc.songTime) laid.2
      · exact laid.2
    refine ⟨fun other => absurd ?_ other, scheduled⟩
    unfold LyricRenderer.rowsFrame
    dsimp only
    split
    · exact (LyricRenderer.schedule_joined _ _).mode.trans mode
    · exact mode
  · exact laid

/-- What a frame start leaves of the LR, before the ticker, the meter and the drawing. -/
theorem State.frameStart_lr (s : State) (size : Option (Nat × Nat)) :
    (s.frameStart size).lr = ((s.withVc (s.vc.resize size)).fitZones.latch.lyricFrame s.vc.layoutKey).lr := by
  simp [State.frameStart]

/-! ### The counts move by move -/

theorem glyphAccepted_code {p : GlyphParams} (h : glyphAccepted p = true) : p.code ≤ 1023 := by
  unfold glyphAccepted at h
  simp only [Bool.and_eq_true, decide_eq_true_eq] at h
  exact h.1.1.1

theorem State.setTime_lr_joined (s : State) (t : Nat) : s.lr.Joined (s.setTime t).lr := by
  unfold State.setTime
  split
  · exact s.lr.rebuild_joined _
  · exact .refl _

theorem Work.sound_lr {src : Source} {c : Command} {s t : State} (h : Work src c s t) (hs : s.lr.sound) : t.lr.sound := by
  cases h with
  | glyphLoad s p a accepted =>
    obtain ⟨glyphs, counts⟩ := hs
    exact ⟨glyphTableWf_loadGlyph _ _ (glyphAccepted_code accepted) glyphs, counts⟩
  | sync s time ended =>
    have timed := (s.setTime_lr_joined time).sound hs
    rw [State.answer_lr, State.endIf]
    split
    · simpa [State.finalise] using timed
    · exact timed
  | skipResult => exact hs
  | stageReset => rw [State.beginReset, State.arrive_lr]; exact hs
  | _ => simpa [State.loadDone, State.stageChangedIf, State.beginStart, State.finalise] using hs

theorem State.sound_showResult {s : State} (hs : s.lr.sound) : s.showResult.lr.sound := by
  obtain ⟨-, h⟩ | ⟨-, -, h⟩ | ⟨-, -, h⟩ := s.showResult_cases <;> rw [h]
  · exact hs
  · exact hs
  · exact (LyricRenderer.buildCard_joined _ _ _).sound hs

theorem Move.sound_lr {i : Instr} {s t : State} (h : Move i s t) (hs : s.lr.sound) : t.lr.sound := by
  cases h with
  | handled src t h =>
    cases h with
    | nothing => exact hs
    | refused => simpa using hs
    | routed c t taken work => exact work.sound_lr hs
  | selectFalls => obtain ⟨p, h⟩ := s.selectFalls_withPorts; rw [h]; exact hs
  | clockByte b => obtain ⟨p, h⟩ := s.clockByte_withPorts b; rw [h]; exact hs
  | startConfirmed => exact LyricRenderer.sound_songStart hs _
  | retireConfirmed rest =>
    obtain ⟨p, stop⟩ := State.answerStop_withPorts
      (((((s.withQm { s.qm with toStage := rest }).withSc { s.sc with endTime := none }).showResult).raiseAll .songEnded))
    rw [stop]
    exact State.sound_showResult (s := (s.withQm { s.qm with toStage := rest }).withSc { s.sc with endTime := none }) hs
  | endResult => exact hs
  | frameStart size =>
    rw [State.frameStart_lr]
    exact (State.lyricFrame_joined _ _).sound (by simpa using hs)
  | saveEnd _ matched saving => obtain ⟨p, q, h, -⟩ := s.endSave_withPs matched saving; rw [h]; exact hs
  | resetEnds => exact ⟨⟨List.Pairwise.nil, fun _ h => nomatch h⟩, Nat.zero_le _, Nat.zero_le _, Nat.zero_le _⟩
  | _ =>
    simpa [State.receive, State.shiftOut, State.finish, State.finishNotice, State.playSlot, State.loadDone,
      State.sample, State.micClip, State.finalise] using hs

/-- Settles O11: every move keeps the lanes, the LR's counts and the PT sound, the PT where the stage key is in range. -/
theorem countsStaySound : Obligations.CountsStaySound := by
  unfold Obligations.CountsStaySound
  refine ⟨fun s t hs run => ?_, fun s t hs run => ?_, fun s t settings hs run => ?_⟩
  · exact step_keeps (P := fun u => u.su.sound) (fun _ _ h => h) (fun _ _ _ m h => m.sound_su h) run hs
  · exact step_keeps (P := fun u => u.lr.sound) (fun _ _ h => h) (fun _ _ _ m h => m.sound_lr h) run hs
  · have both := step_keeps (P := fun u => u.songSettingsInRange ∧ u.pt.sound) (fun _ _ h => h)
      (fun _ u _ m ⟨range, sound⟩ => ⟨m.songSettingsInRange range, m.sound_pt range.2.2.1.1 range.2.2.1.2.1 sound⟩) run
      ⟨settings, hs⟩
    exact both.2

/-! ### The rows move by move (R113, R121) -/

/-- In PLAYING and PAUSED the LR shows the ROWS. -/
def State.rowsOnSong (s : State) : Prop := s.sc.onSong = true → s.lr.mode = .rows

theorem StageController.onSong_iff (c : StageController) :
    c.onSong = true ↔ c.stage = .playing ∨ c.stage = .paused := by
  simp [StageController.onSong]

theorem State.lyricRowsFit_iff (s : State) : s.lyricRowsFit ↔ s.rowsOnSong ∧ s.lr.fits s.vc.geometry.rows := by
  unfold State.lyricRowsFit State.rowsOnSong LyricRenderer.fits
  rw [StageController.onSong_iff]

/-- A state with the same stage, zone and picture. -/
theorem State.lyricRowsFit_congr {s t : State} (h : s.lyricRowsFit) (stage : t.sc.onSong = true → s.sc.onSong = true)
    (lr : t.lr.mode = s.lr.mode ∧ t.lr.stack = s.lr.stack) (rows : t.vc.geometry.rows = s.vc.geometry.rows) :
    t.lyricRowsFit := by
  rw [State.lyricRowsFit_iff] at h ⊢
  obtain ⟨mode, fits⟩ := h
  refine ⟨fun song => lr.1.trans (mode (stage song)), ?_⟩
  unfold LyricRenderer.fits
  rwa [lr.1, lr.2, rows]

/-- An emptied zone, on a stage that holds no song. -/
theorem State.lyricRowsFit_of_empty {s : State} (stage : s.sc.onSong = false) (stack : s.lr.stack = []) :
    s.lyricRowsFit :=
  s.lyricRowsFit_iff.2 ⟨fun song => (Bool.false_ne_true (stage.symm.trans song)).elim,
    LyricRenderer.fits_of_empty stack _⟩

theorem State.lyricRowsFit_setTime {s : State} (h : s.lyricRowsFit) (t : Nat) (song : s.sc.onSong = true) :
    (s.setTime t).lyricRowsFit := by
  have mode := (s.lyricRowsFit_iff.1 h).1 song
  unfold State.setTime
  split
  · exact (State.lyricRowsFit_iff _).2
      ⟨fun _ => (LyricRenderer.rebuild_joined _ _).mode.trans mode, LyricRenderer.fits_rebuild mode⟩
  · exact h

theorem State.lyricRowsFit_finalise {s : State} (h : s.lyricRowsFit) (kind : EndKind) : (s.finalise kind).lyricRowsFit := by
  refine State.lyricRowsFit_congr h (fun song => ?_) (by simp [State.finalise]) (by simp [State.finalise])
  simp [State.finalise, StageController.onSong] at song

theorem Work.lyricRowsFit {src : Source} {c : Command} {s t : State} (h : Work src c s t) (hs : s.lyricRowsFit) :
    t.lyricRowsFit := by
  cases h with
  | start =>
    refine State.lyricRowsFit_congr hs (fun song => ?_) (by simp [State.beginStart]) (by simp [State.beginStart])
    simp [State.beginStart, StageController.onSong] at song
  | pause s a stage | resume s a stage =>
    exact State.lyricRowsFit_congr hs (fun _ => by simp [StageController.onSong, stage]) ⟨rfl, rfl⟩ rfl
  | stop => exact State.lyricRowsFit_finalise hs _
  | sync s time ended a song =>
    have timed := State.lyricRowsFit_setTime hs time song
    unfold State.endIf
    split
    · exact State.lyricRowsFit_congr (State.lyricRowsFit_finalise timed .completed) (by simp) (by simp) (by simp)
    · exact State.lyricRowsFit_congr timed (by simp) (by simp) (by simp)
  | key c s k moved a right song | tempo s p moved a song =>
    exact State.lyricRowsFit_congr hs (fun _ => song) (by simp [State.stageChangedIf]) (by simp [State.stageChangedIf])
  | skipResult => exact State.lyricRowsFit_of_empty rfl rfl
  | stageReset =>
    refine State.lyricRowsFit_of_empty ?_ ?_ <;> simp [State.beginReset, StageController.onSong]
    rfl
  | _ => exact State.lyricRowsFit_congr hs (by simp [State.loadDone]) (by simp [State.loadDone]) (by simp [State.loadDone])

theorem State.lyricRowsFit_showResult {s : State} (h : s.lyricRowsFit) : s.showResult.lyricRowsFit := by
  obtain ⟨-, he⟩ | ⟨-, -, he⟩ | ⟨-, -, he⟩ := s.showResult_cases <;> rw [he]
  · exact h
  · exact State.lyricRowsFit_of_empty rfl rfl
  · exact State.lyricRowsFit_of_empty rfl rfl

theorem VideoCompositor.samePicture.rows {v w : VideoCompositor} (h : v.samePicture w) :
    v.geometry.rows = w.geometry.rows := congrArg FrameSettings.effectiveRows h.2.2.1

theorem State.lyricRowsFit_frameStart {s : State} (h : s.lyricRowsFit) (size : Option (Nat × Nat)) :
    (s.frameStart size).lyricRowsFit := by
  obtain ⟨mode, fits⟩ := s.lyricRowsFit_iff.1 h
  have laid := State.lyricFrame_fits (s := (s.withVc (s.vc.resize size)).fitZones.latch) (v := s.vc) (by simpa using fits)
  have joined := (s.withVc (s.vc.resize size)).fitZones.latch.lyricFrame_joined s.vc.layoutKey
  refine (State.lyricRowsFit_iff _).2 ⟨fun song => ?_, ?_⟩
  · rw [State.frameStart_lr, joined.mode]
    simpa using mode (by simpa [State.frameStart] using song)
  · rw [State.frameStart_lr]
    have live : (s.frameStart size).vc.live = ((s.withVc (s.vc.resize size)).fitZones.latch).vc.live := by
      simp [State.frameStart, State.draw]
    have rows : (s.frameStart size).vc.geometry.rows = ((s.withVc (s.vc.resize size)).fitZones.latch).vc.geometry.rows :=
      congrArg FrameSettings.effectiveRows live
    rwa [rows]

theorem Move.lyricRowsFit {i : Instr} {s t : State} (h : Move i s t) (hs : s.lyricRowsFit) : t.lyricRowsFit := by
  cases h with
  | handled src t h =>
    cases h with
    | nothing => exact hs
    | refused => exact State.lyricRowsFit_congr hs (by simp) (by simp) (by simp)
    | routed c t taken work => exact work.lyricRowsFit hs
  | selectFalls => obtain ⟨p, h⟩ := s.selectFalls_withPorts; rw [h]; exact hs
  | clockByte b => obtain ⟨p, h⟩ := s.clockByte_withPorts b; rw [h]; exact hs
  | startConfirmed key tempo duet rest p =>
    exact (State.lyricRowsFit_iff _).2 ⟨fun _ => (LyricRenderer.rebuild_joined _ _).mode, LyricRenderer.fits_rebuild rfl⟩
  | cueLost rest p =>
    refine State.lyricRowsFit_congr hs (fun song => ?_) (by simp) (by simp)
    cases hp : p.back <;> simp [StageController.onSong, ReturnState.stage, hp] at song
  | retireConfirmed rest =>
    obtain ⟨p, stop⟩ := State.answerStop_withPorts
      (((((s.withQm { s.qm with toStage := rest }).withSc { s.sc with endTime := none }).showResult).raiseAll .songEnded))
    rw [stop]
    exact State.lyricRowsFit_showResult (s := (s.withQm { s.qm with toStage := rest }).withSc { s.sc with endTime := none })
      hs
  | resetConfirmed =>
    refine State.lyricRowsFit_congr hs (fun song => ?_) (by simp) (by simp)
    simp [StageController.onSong] at song
  | advance playing =>
    exact State.lyricRowsFit_congr hs (fun _ => by simp [StageController.onSong, playing]) ⟨rfl, rfl⟩ rfl
  | finalise => exact State.lyricRowsFit_finalise hs _
  | hold timer result => exact State.lyricRowsFit_congr hs id ⟨rfl, rfl⟩ rfl
  | endResult => exact State.lyricRowsFit_of_empty rfl rfl
  | measure v same => exact State.lyricRowsFit_congr hs id ⟨rfl, rfl⟩ same.rows
  | frameStart size => exact State.lyricRowsFit_frameStart hs size
  | saveEnd _ matched saving => obtain ⟨p, q, h, -⟩ := s.endSave_withPs matched saving; rw [h]; exact hs
  | resetEnds => exact State.lyricRowsFit_of_empty rfl rfl
  | _ =>
    refine State.lyricRowsFit_congr hs ?_ ?_ ?_ <;>
      simp [State.receive, State.shiftOut, State.finish, State.finishNotice, State.playSlot, State.loadDone,
        State.sample, State.micClip]

/-- Settles O51: every move keeps the rows within the count, as do a rebuild and the stages of a frame start. -/
theorem lyricRowsFit : Obligations.LyricRowsFit := by
  unfold Obligations.LyricRowsFit
  exact ⟨fun s t hs run => step_keeps (fun _ _ h => h) (fun _ _ _ m h => m.lyricRowsFit h) run hs,
    fun r i => ⟨r.rebuild_rowsHeld i, LyricRenderer.schedule_rowsHeld⟩⟩

end Sys2Proof.Machine
end

section
/-! PROOFS. The profile and the picture (chapters 8 and 11): reading a field after writing one, the ranges, and then the
settings move by move. -/

namespace Sys2Proof.Machine

/-! ### Reading after writing (R179) -/

theorem Rgb.get_put_same (c : Rgb) (k : Component) (v : Nat) : (c.put k v).get k = v := by
  cases k <;> rfl

theorem Rgb.get_put_other {k k' : Component} (h : k' ≠ k) (c : Rgb) (v : Nat) : (c.put k v).get k' = c.get k' := by
  cases k <;> cases k' <;> trivial

theorem ColourSet.get_put_same (s : ColourSet) (k : SetColour) (c : Rgb) : (s.put k c).get k = c := by
  cases k <;> rfl

theorem ColourSet.get_put_other {k k' : SetColour} (h : k' ≠ k) (s : ColourSet) (c : Rgb) :
    (s.put k c).get k' = s.get k' := by
  cases k <;> cases k' <;> trivial

theorem FrameSettings.set_putSet_same (f : FrameSettings) (p : PartTag) (s : ColourSet) : (f.putSet p s).set p = s := by
  cases p <;> rfl

theorem FrameSettings.set_putSet_other {p p' : PartTag} (h : p' ≠ p) (f : FrameSettings) (s : ColourSet) :
    (f.putSet p s).set p' = f.set p' := by
  cases p <;> cases p' <;> trivial

theorem FrameSettings.grade_putGrade_same (f : FrameSettings) (g : Grade) (c : Rgb) : (f.putGrade g c).grade g = c := by
  cases g <;> rfl

theorem FrameSettings.grade_putGrade_other {g g' : Grade} (h : g' ≠ g) (f : FrameSettings) (c : Rgb) :
    (f.putGrade g c).grade g' = f.grade g' := by
  cases g <;> cases g' <;> trivial

theorem FrameSettings.glyphAlpha_put_other {z z' : Zone} (h : z' ≠ z) (f : FrameSettings) (v : Nat) :
    (f.putGlyphAlpha z v).glyphAlpha z' = f.glyphAlpha z' := by
  cases z <;> cases z' <;> trivial

theorem FrameSettings.boxAlpha_put_other {z z' : Zone} (h : z' ≠ z) (f : FrameSettings) (v : Nat) :
    (f.putBoxAlpha z v).boxAlpha z' = f.boxAlpha z' := by
  cases z <;> cases z' <;> trivial

/-- The colour of a set after a component of a colour of a set is written. -/
theorem FrameSettings.get_putSet (f : FrameSettings) (s s' : PartTag) (k k' : SetColour) (c c' : Component) (v : Nat) :
    (((f.putSet s ((f.set s).put k (((f.set s).get k).put c v))).set s').get k').get c'
      = if s' = s ∧ k' = k ∧ c' = c then v else ((f.set s').get k').get c' := by
  by_cases hs : s' = s
  · subst hs
    rw [FrameSettings.set_putSet_same]
    by_cases hk : k' = k
    · subst hk
      rw [ColourSet.get_put_same]
      by_cases hc : c' = c
      · subst hc; simp [Rgb.get_put_same]
      · simp [Rgb.get_put_other hc, hc]
    · simp [ColourSet.get_put_other hk, hk]
  · simp [FrameSettings.set_putSet_other hs, hs]

/-- A field written with a value of its range reads back. -/
theorem Profile.get_put_same (p : Profile) {f : ProfileField} {v : Int} (range : f.range.clamp v = v) :
    (p.put v f).get f = v := by
  have nonneg : f ≠ .voiceThreshold → 0 ≤ v := by
    intro other
    cases f with
    | voiceThreshold => exact absurd rfl other
    | ht | hm | promote =>
      simp only [ProfileField.range, FieldRange.clamp] at range
      omega
    | defaultRights =>
      simp only [ProfileField.range, FieldRange.clamp] at range
      omega
    | _ =>
      simp only [ProfileField.range, FieldRange.clamp, clampInt] at range
      omega
  have cast (other : f ≠ .voiceThreshold) : ((v.toNat : Nat) : Int) = v := Int.toNat_of_nonneg (nonneg other)
  cases f with
  | voiceThreshold => rfl
  | fold =>
    simp only [ProfileField.range, FieldRange.clamp, clampInt] at range
    obtain rfl | rfl : v = 0 ∨ v = 1 := by omega
    · rfl
    · rfl
  | defaultRights =>
    have pos := nonneg (nofun)
    simp only [ProfileField.range, FieldRange.clamp] at range
    simp only [Profile.put, Profile.get, BitVec.toNat_ofNat]
    omega
  | setColour s k c =>
    refine Eq.trans ?_ (cast nofun)
    simp [Profile.put, Profile.get, Profile.stage, FrameSettings.get_putSet]
  | gradeColour g c =>
    refine Eq.trans ?_ (cast nofun)
    simp [Profile.put, Profile.get, Profile.stage, FrameSettings.grade_putGrade_same, Rgb.get_put_same]
  | background c =>
    refine Eq.trans ?_ (cast nofun)
    simp [Profile.put, Profile.get, Profile.stage, Rgb.get_put_same]
  | glyphAlpha z | boxAlpha z => cases z <;> exact cast nofun
  | _ => exact cast nofun

/-- Every other field stays. -/
theorem Profile.get_put_other (p : Profile) {f g : ProfileField} (other : g ≠ f) (v : Int) :
    (p.put v f).get g = p.get g := by
  cases f with
  | setColour s k c =>
    cases g with
    | setColour s' k' c' =>
      have ne : ¬ (s' = s ∧ k' = k ∧ c' = c) := fun ⟨hs, hk, hc⟩ => other (by rw [hs, hk, hc])
      simp [Profile.put, Profile.get, Profile.stage, FrameSettings.get_putSet, ne]
    | _ => cases s <;> rfl
  | gradeColour h c =>
    cases g with
    | gradeColour h' c' =>
      by_cases hh : h' = h
      · subst hh
        have ne : c' ≠ c := fun hc => other (by rw [hc])
        simp [Profile.put, Profile.get, Profile.stage, FrameSettings.grade_putGrade_same, Rgb.get_put_other ne]
      · simp [Profile.put, Profile.get, Profile.stage, FrameSettings.grade_putGrade_other hh]
    | _ => cases h <;> rfl
  | background c =>
    cases g with
    | background c' =>
      have ne : c' ≠ c := fun hc => other (by rw [hc])
      simp [Profile.put, Profile.get, Profile.stage, Rgb.get_put_other ne]
    | _ => rfl
  | glyphAlpha z =>
    cases g with
    | glyphAlpha z' =>
      have ne : z' ≠ z := fun hz => other (by rw [hz])
      simp [Profile.put, Profile.get, Profile.stage, FrameSettings.glyphAlpha_put_other ne]
    | _ => cases z <;> rfl
  | boxAlpha z =>
    cases g with
    | boxAlpha z' =>
      have ne : z' ≠ z := fun hz => other (by rw [hz])
      simp [Profile.put, Profile.get, Profile.stage, FrameSettings.boxAlpha_put_other ne]
    | _ => cases z <;> rfl
  | _ => cases g <;> trivial

/-! ### Ranges (R178) -/

/-- A clamped value is in the range. -/
theorem ProfileField.clamp_clamp (f : ProfileField) (v : Int) : f.range.clamp (f.range.clamp v) = f.range.clamp v := by
  cases f with
  | ht | hm | promote =>
    simp only [ProfileField.range, FieldRange.clamp]
    split
    · split <;> simp
    · omega
  | defaultRights =>
    simp only [ProfileField.range, FieldRange.clamp]
    omega
  | _ =>
    simp only [ProfileField.range, FieldRange.clamp, clampInt]
    omega

theorem Profile.inRange_put {p : Profile} (h : p.inRange) (f : ProfileField) (v : Int) :
    (p.put (f.range.clamp v) f).inRange := by
  intro g
  by_cases same : g = f
  · subst same
    rw [Profile.get_put_same p (g.clamp_clamp v), g.clamp_clamp v]
  · rw [Profile.get_put_other p same]
    exact h g

/-- The frame-latched fields (R153). -/
def ProfileField.latched : ProfileField → Bool
  | .rows | .rowGap | .margin | .scrollFrames | .ht | .hl | .hm => true
  | .setColour .. | .gradeColour .. | .background .. | .glyphAlpha .. | .boxAlpha .. => true
  | _ => false

theorem Profile.get_stage_of_latched (p q : Profile) (l : FrameSettings) {f : ProfileField} (h : f.latched = true) :
    (p.stage l).get f = (q.stage l).get f := by
  cases f <;> trivial

theorem Profile.get_stage_of_not_latched (p : Profile) (l : FrameSettings) {f : ProfileField} (h : f.latched = false) :
    (p.stage l).get f = p.get f := by
  cases f <;> trivial

/-- Settings in range under one profile are in range under another. -/
theorem Profile.inRange_stage {p q : Profile} {l : FrameSettings} (hp : p.inRange) (hq : (q.stage l).inRange) :
    (p.stage l).inRange := by
  intro f
  cases h : f.latched with
  | true => rw [Profile.get_stage_of_latched p q l h]; exact hq f
  | false => rw [Profile.get_stage_of_not_latched p l h]; exact hp f

theorem Profile.inRange_defaults : Profile.defaults.inRange := by
  intro f
  cases f with
  | setColour s k c => cases s <;> cases k <;> cases c <;> rfl
  | gradeColour g c => cases g <;> cases c <;> rfl
  | background c => cases c <;> rfl
  | glyphAlpha z | boxAlpha z => cases z <;> rfl
  | _ => rfl

/-! ### The zones (R152, R154) -/

theorem FieldRange.clamp_zeroOr_iff {lo hi : Int} (low : 0 < lo) (high : lo ≤ hi) (v : Int) :
    (FieldRange.zeroOr lo hi).clamp v = v ↔ v = 0 ∨ (lo ≤ v ∧ v ≤ hi) := by
  unfold FieldRange.clamp
  by_cases below : v < lo
  · by_cases half : lo ≤ 2 * v
    · simp only [below, half, if_true]; omega
    · simp only [below, half, if_true, if_false]; omega
  · simp only [below, if_false]; omega

theorem FieldRange.clamp_plain_iff {lo hi : Int} (high : lo ≤ hi) (v : Int) :
    (FieldRange.plain lo hi).clamp v = v ↔ lo ≤ v ∧ v ≤ hi := by
  simp only [FieldRange.clamp, clampInt]
  omega

theorem Profile.inRange_put_of {p : Profile} (h : p.inRange) (f : ProfileField) {v : Int} (range : f.range.clamp v = v) :
    (p.put v f).inRange := range ▸ Profile.inRange_put h f v

/-- A staged set of heights in their ranges keeps the profile in range. -/
theorem Profile.inRange_heights {p : Profile} (h : p.inRange) {ht hl hm : Nat} (ticker : ht = 0 ∨ (24 ≤ ht ∧ ht ≤ 64))
    (lyric : hl ≤ 720) (meter : hm = 0 ∨ (48 ≤ hm ∧ hm ≤ 160)) :
    (p.stage { p.staged with ht := ht, hl := hl, hm := hm }).inRange := by
  have one := Profile.inRange_put_of h .ht (v := ht) ((FieldRange.clamp_zeroOr_iff (by omega) (by omega) _).2 (by omega))
  have two := Profile.inRange_put_of one .hl (v := hl) ((FieldRange.clamp_plain_iff (by omega) _).2 (by omega))
  exact Profile.inRange_put_of two .hm (v := hm) ((FieldRange.clamp_zeroOr_iff (by omega) (by omega) _).2 (by omega))

/-- The heights of a profile in range. -/
theorem Profile.inRange.heights {p : Profile} (h : p.inRange) :
    (p.staged.ht = 0 ∨ (24 ≤ p.staged.ht ∧ p.staged.ht ≤ 64)) ∧ p.staged.hl ≤ 720
      ∧ (p.staged.hm = 0 ∨ (48 ≤ p.staged.hm ∧ p.staged.hm ≤ 160)) := by
  have ticker := (FieldRange.clamp_zeroOr_iff (by omega) (by omega) _).1 (h .ht)
  have lyric := (FieldRange.clamp_plain_iff (by omega) _).1 (h .hl)
  have meter := (FieldRange.clamp_zeroOr_iff (by omega) (by omega) _).1 (h .hm)
  simp only [Profile.get] at ticker lyric meter
  omega

theorem lowered_cases (least room height : Nat) :
    lowered least room height = 0 ∨ (lowered least room height = height ∧ height ≤ room)
      ∨ (lowered least room height = room ∧ least ≤ room ∧ room < height) := by
  unfold lowered
  split
  · exact .inr (.inl ⟨rfl, ‹_›⟩)
  · split
    · exact .inl rfl
    · exact .inr (.inr ⟨rfl, by omega, by omega⟩)

theorem lowered_le (least room height : Nat) : lowered least room height ≤ room := by
  obtain h | ⟨h, le⟩ | ⟨h, -⟩ := lowered_cases least room height <;> omega

theorem FrameSettings.fit_sum (f : FrameSettings) (height : Nat) :
    (f.fit height).ht + (f.fit height).hl + (f.fit height).hm ≤ height := by
  unfold FrameSettings.fit
  dsimp only
  have lyric := lowered_le 0 (height - f.ht - f.hm) f.hl
  generalize lowered 0 (height - f.ht - f.hm) f.hl = hl at lyric
  have meter := lowered_le 48 (height - f.ht - hl) f.hm
  generalize lowered 48 (height - f.ht - hl) f.hm = hm at meter
  have ticker := lowered_le 24 (height - hl - hm) f.ht
  omega

theorem Profile.inRange_fit {p : Profile} (h : p.inRange) (height : Nat) : (p.stage (p.staged.fit height)).inRange := by
  obtain ⟨ticker, lyric, meter⟩ := h.heights
  refine Profile.inRange_heights h ?_ ?_ ?_
  · obtain h | ⟨h, -⟩ | ⟨h, _, _⟩ := lowered_cases 24
      (height - lowered 0 (height - p.staged.ht - p.staged.hm) p.staged.hl
        - lowered 48 (height - p.staged.ht - lowered 0 (height - p.staged.ht - p.staged.hm) p.staged.hl) p.staged.hm)
      p.staged.ht <;> omega
  · obtain h | ⟨h, -⟩ | ⟨h, _, _⟩ := lowered_cases 0 (height - p.staged.ht - p.staged.hm) p.staged.hl <;> omega
  · obtain h | ⟨h, -⟩ | ⟨h, _, _⟩ := lowered_cases 48
      (height - p.staged.ht - lowered 0 (height - p.staged.ht - p.staged.hm) p.staged.hl) p.staged.hm <;> omega

theorem zonesAccepted_iff {height ht hl hm : Nat} :
    zonesAccepted height ht hl hm = true
      ↔ (ht = 0 ∨ (24 ≤ ht ∧ ht ≤ 64)) ∧ (hm = 0 ∨ (48 ≤ hm ∧ hm ≤ 160)) ∧ ht + hl + hm ≤ height := by
  simp [zonesAccepted, and_assoc]

/-! ### The settings move by move -/

/-- The settings of two states whose profile and picture are the same. -/
theorem State.settingsInRange_congr {s t : State} (h : s.settingsInRange) (ps : t.ps = s.ps) (vc : t.vc.samePicture s.vc) :
    t.settingsInRange := by
  obtain ⟨width, height, live, picture⟩ := vc
  unfold State.settingsInRange
  rw [ps, width, height, live, picture]
  exact h

theorem VideoCompositor.samePicture.of_eq {v w : VideoCompositor} (h : v = w) : v.samePicture w := by
  subst h; exact ⟨rfl, rfl, rfl, rfl⟩

/-- A new live profile in range. -/
theorem State.settingsInRange_profile {s : State} (h : s.settingsInRange) {p : Profile} (hp : p.inRange) :
    (s.withPs { s.ps with profile := p }).settingsInRange := by
  obtain ⟨-, live, rest⟩ := h
  exact ⟨hp, Profile.inRange_stage hp live, rest⟩

theorem Work.settingsInRange {src : Source} {c : Command} {s t : State} (h : Work src c s t) (hs : s.settingsInRange) :
    t.settingsInRange := by
  cases h with
  | zones s ht hl hm a accepted =>
    obtain ⟨ticker, meter, sum⟩ := zonesAccepted_iff.1 accepted
    obtain ⟨profile, -, -, -, -, -, -, tall, -⟩ := id hs
    exact State.settingsInRange_profile hs (Profile.inRange_heights profile ticker (by omega) meter)
  | profileSet s f v a => exact State.settingsInRange_profile hs (Profile.inRange_put hs.1 f v)
  | profileSave s =>
    obtain ⟨profile, live, -, -, rest⟩ := hs
    refine ⟨profile, live, (fun _ h => nomatch h), fun p hp => ?_, rest⟩
    exact Option.some.inj hp ▸ profile
  | _ =>
    refine State.settingsInRange_congr hs ?_ (.of_eq ?_) <;>
      simp [State.loadDone, State.stageChangedIf, State.beginStart, State.endResult, State.finalise, State.setTime,
        State.endIf, State.beginReset]

/-- The settings after the size, the fit and the latch of a frame start: in range, and the live zones fit (R153, R154). -/
theorem State.settingsInRange_frameStart {s : State} (h : s.settingsInRange) {size : Option (Nat × Nat)}
    (taken : sizeTaken size) : (s.frameStart size).settingsInRange := by
  obtain ⟨profile, -, nonvolatile, saving, sizes⟩ := h
  have resized : 640 ≤ (s.vc.resize size).width ∧ (s.vc.resize size).width ≤ 1280 ∧ 360 ≤ (s.vc.resize size).height
      ∧ (s.vc.resize size).height ≤ 720 := by
    cases size with
    | none => exact ⟨sizes.1, sizes.2.1, sizes.2.2.1, sizes.2.2.2.1⟩
    | some wh => exact taken wh.1 wh.2 rfl
  have fitted : ∃ p : Profile, p.inRange ∧ p.staged.ht + p.staged.hl + p.staged.hm ≤ (s.vc.resize size).height
      ∧ (s.withVc (s.vc.resize size)).fitZones.ps = { s.ps with profile := p } := by
    unfold State.fitZones
    dsimp only
    split
    · next fits => exact ⟨_, profile, fits, rfl⟩
    · exact ⟨_, Profile.inRange_fit profile _, FrameSettings.fit_sum _ _, rfl⟩
  obtain ⟨p, range, sum, ps⟩ := fitted
  have ps' : (s.frameStart size).ps = { s.ps with profile := p } := by
    rw [← ps]; simp [State.frameStart]
  have vc : (s.frameStart size).vc.width = (s.vc.resize size).width
      ∧ (s.frameStart size).vc.height = (s.vc.resize size).height ∧ (s.frameStart size).vc.live = p.staged := by
    simp [State.frameStart, State.draw, State.latch, ps]
  obtain ⟨width, height, live⟩ := vc
  unfold State.settingsInRange
  rw [ps', width, height, live]
  exact ⟨range, range, nonvolatile, saving, resized.1, resized.2.1, resized.2.2.1, resized.2.2.2, fun _ => sum⟩

theorem State.settingsInRange_atEndOfReset {copy : Option Profile} (h : ∀ p, copy = some p → p.inRange) :
    (State.atEndOfReset copy).settingsInRange := by
  have profile : (copy.getD Profile.defaults).inRange := by
    cases copy with
    | none => exact Profile.inRange_defaults
    | some p => exact h p rfl
  exact ⟨profile, profile, h, (fun _ h => nomatch h), (by decide : 640 ≤ 1280), (by decide : 1280 ≤ 1280), (by decide : 360 ≤ 720),
    (by decide : 720 ≤ 720), (nomatch ·)⟩

theorem Move.settingsInRange {i : Instr} {s t : State} (h : Move i s t) (hs : s.settingsInRange) : t.settingsInRange := by
  cases h with
  | handled src t h =>
    cases h with
    | nothing => exact hs
    | refused => exact State.settingsInRange_congr hs (by simp) (.of_eq (by simp))
    | routed c t taken work => exact work.settingsInRange hs
  | selectFalls => obtain ⟨p, h⟩ := s.selectFalls_withPorts; rw [h]; exact hs
  | clockByte b => obtain ⟨p, h⟩ := s.clockByte_withPorts b; rw [h]; exact hs
  | retireConfirmed rest =>
    obtain ⟨p, stop⟩ := State.answerStop_withPorts
      (((((s.withQm { s.qm with toStage := rest }).withSc { s.sc with endTime := none }).showResult).raiseAll .songEnded))
    rw [stop]
    obtain ⟨-, h⟩ | ⟨-, -, h⟩ | ⟨-, -, h⟩ := State.showResult_cases
      ((s.withQm { s.qm with toStage := rest }).withSc { s.sc with endTime := none }) <;>
    · rw [h]
      exact State.settingsInRange_congr hs rfl (.of_eq rfl)
  | measure v same => exact State.settingsInRange_congr hs rfl same
  | frameStart size taken => exact State.settingsInRange_frameStart hs taken
  | saveEnd copy matched saving =>
    obtain ⟨p, q, h, profile, done, store⟩ := s.endSave_withPs matched saving
    obtain ⟨range, live, -, saved, rest⟩ := hs
    rw [h]
    unfold State.settingsInRange
    simp only [State.withPs_ps, profile, done]
    refine ⟨range, live, fun p hp => ?_, (fun _ h => nomatch h), rest⟩
    obtain none | kept := store
    · rw [none] at hp; cases hp
    · obtain rfl := Option.some.inj (kept.symm.trans hp)
      exact saved _ saving
  | resetBegins =>
    obtain ⟨profile, live, nonvolatile, -, rest⟩ := hs
    exact ⟨profile, live, nonvolatile, (fun _ h => nomatch h), rest⟩
  | resetEnds => exact State.settingsInRange_atEndOfReset hs.2.2.1
  | _ =>
    refine State.settingsInRange_congr hs ?_ (.of_eq ?_) <;>
      simp [State.receive, State.shiftOut, State.finish, State.finishNotice, State.playSlot, State.loadDone,
        State.songStart, State.finalise, State.endResult, State.sample, State.micClip]

/-- Settles O12: every move keeps the profile, the picture's size and the live zones in their ranges. -/
theorem profileAndPictureStayInRange : Obligations.ProfileAndPictureStayInRange := by
  unfold Obligations.ProfileAndPictureStayInRange
  exact fun s t hs run => step_keeps (fun _ _ h => h) (fun _ _ _ m h => m.settingsInRange h) run hs

end Sys2Proof.Machine
end

section
/-! PROOFS. The profile's commands and its table (chapter 11). -/

namespace Sys2Proof.Machine

/-! ### The table (R178) -/

/-- The number of a field, by which no two fields are the same. -/
def ProfileField.number : ProfileField → Nat
  | .tolerance => 0x00
  | .fold => 0x01
  | .voiceThreshold => 0x02
  | .lead => 0x08
  | .tail => 0x09
  | .rows => 0x0A
  | .rowGap => 0x0B
  | .margin => 0x0C
  | .scrollFrames => 0x0D
  | .ht => 0x10
  | .hl => 0x11
  | .hm => 0x12
  | .setColour s k c =>
    0x20 + (match s with | .p1 => 0 | .p2 => 9 | .both => 18) + (match k with | .unsung => 0 | .sung => 3 | .outline => 6)
      + (match c with | .red => 0 | .green => 1 | .blue => 2)
  | .gradeColour g c =>
    0x40 + (match g with | .perfect => 0 | .good => 3 | .fair => 6 | .miss => 9)
      + (match c with | .red => 0 | .green => 1 | .blue => 2)
  | .background c => 0x4C + (match c with | .red => 0 | .green => 1 | .blue => 2)
  | .glyphAlpha z => match z with | .ticker => 0x50 | .lyric => 0x52 | .meter => 0x54
  | .boxAlpha z => match z with | .ticker => 0x51 | .lyric => 0x53 | .meter => 0x55
  | .tickerCount => 0x58
  | .tickerSpeed => 0x59
  | .future => 0x5A
  | .promote => 0x60
  | .syncWindow => 0x61
  | .resultHold => 0x62
  | .defaultRights => 0x63

/-- No number above the table's last names a field. -/
theorem fieldOf_eq_none_of_lt {n : Nat} (h : 0x63 < n) : fieldOf n = none := by
  have plain : plainFieldOf n = none := match n, h with | _ + 100, _ => rfl
  unfold fieldOf
  rw [if_neg (by omega), if_neg (by omega), if_neg (by omega), if_neg (by omega), plain]

theorem fieldOf_table : ∀ n < 100, (∀ f, fieldOf n = some f → f.number = n)
    ∧ ((fieldOf n).isSome = true ↔
      n ≤ 0x02 ∨ (0x08 ≤ n ∧ n ≤ 0x0D) ∨ (0x10 ≤ n ∧ n ≤ 0x12) ∨ (0x20 ≤ n ∧ n ≤ 0x3A) ∨ (0x40 ≤ n ∧ n ≤ 0x4E)
        ∨ (0x50 ≤ n ∧ n ≤ 0x55) ∨ (0x58 ≤ n ∧ n ≤ 0x5A) ∨ (0x60 ≤ n ∧ n ≤ 0x63)) := by
  have all : ∀ n < 100, (fieldOf n).all (fun f => f.number == n) = true
      ∧ ((fieldOf n).isSome = true ↔
      n ≤ 0x02 ∨ (0x08 ≤ n ∧ n ≤ 0x0D) ∨ (0x10 ≤ n ∧ n ≤ 0x12) ∨ (0x20 ≤ n ∧ n ≤ 0x3A) ∨ (0x40 ≤ n ∧ n ≤ 0x4E)
        ∨ (0x50 ≤ n ∧ n ≤ 0x55) ∨ (0x58 ≤ n ∧ n ≤ 0x5A) ∨ (0x60 ≤ n ∧ n ≤ 0x63)) := by
    decide
  intro n hn
  obtain ⟨number, listed⟩ := all n hn
  refine ⟨fun f hf => ?_, listed⟩
  rw [hf] at number
  simpa using number

theorem fieldOf_isSome_iff (n : Nat) : (fieldOf n).isSome = true ↔
      n ≤ 0x02 ∨ (0x08 ≤ n ∧ n ≤ 0x0D) ∨ (0x10 ≤ n ∧ n ≤ 0x12) ∨ (0x20 ≤ n ∧ n ≤ 0x3A) ∨ (0x40 ≤ n ∧ n ≤ 0x4E)
        ∨ (0x50 ≤ n ∧ n ≤ 0x55) ∨ (0x58 ≤ n ∧ n ≤ 0x5A) ∨ (0x60 ≤ n ∧ n ≤ 0x63) := by
  by_cases h : n < 100
  · exact (fieldOf_table n h).2
  · rw [fieldOf_eq_none_of_lt (by omega)]
    simp only [Option.isSome_none, Bool.false_eq_true, false_iff]
    omega

theorem number_of_fieldOf {n : Nat} {f : ProfileField} (h : fieldOf n = some f) : f.number = n := by
  by_cases low : n < 100
  · exact (fieldOf_table n low).1 f h
  · rw [fieldOf_eq_none_of_lt (by omega)] at h
    cases h

/-- The colours' fields are bytes. -/
theorem range_of_colour {n : Nat} {f : ProfileField} (h : (0x20 ≤ n ∧ n ≤ 0x3A) ∨ (0x40 ≤ n ∧ n ≤ 0x4E))
    (hf : fieldOf n = some f) : f.range = .plain 0 255 := by
  unfold fieldOf at hf
  split at hf
  · obtain rfl := Option.some.inj hf; rfl
  · split at hf
    · obtain rfl := Option.some.inj hf; rfl
    · split at hf
      · obtain rfl := Option.some.inj hf; rfl
      · omega

/-- Across a gap a value goes to the nearer allowed one, halfway going up (R179). -/
theorem FieldRange.clamp_zeroOr_even (half hi v : Int) (low : 0 < half) (high : 2 * half ≤ hi) :
    (FieldRange.zeroOr (2 * half) hi).clamp v = if v ≤ half - 1 then 0 else if v ≤ 2 * half then 2 * half else min hi v := by
  simp only [FieldRange.clamp]
  by_cases below : v < 2 * half
  · by_cases near : v ≤ half - 1
    · rw [if_pos below, if_neg (by omega), if_pos near]
    · rw [if_pos below, if_pos (by omega), if_neg near, if_pos (by omega)]
  · rw [if_neg below, if_neg (by omega)]
    by_cases edge : v ≤ 2 * half
    · rw [if_pos edge]; omega
    · rw [if_neg edge]

/-! ### PROFILE-SET and PROFILE-GET (R179) -/

theorem exec_profileSet_of_accepts {src : Source} {s : State} (h : s.accepts src .profileSet) (n : Nat) (v : Int) :
    exec (.profileSet src n v) s = .next ((s.route src .profileSet).psSet src n v) :=
  congrArg Host.Outcome.next (State.command_of_accepts h (State.psSet src n v))

theorem exec_profileGet_of_accepts {src : Source} {s : State} (h : s.accepts src .profileGet) (n : Nat) :
    exec (.profileGet src n) s = .next ((s.route src .profileGet).psGet src n) :=
  congrArg Host.Outcome.next (State.command_of_accepts h (State.psGet src n))

/-- Settles O59: the commands by whether the table has the number, and the table read off number by number. -/
theorem profileFieldsAreSet : Obligations.ProfileFieldsAreSet := by
  unfold Obligations.ProfileFieldsAreSet
  refine ⟨fun src s n v => ⟨fun none => ⟨fun set => ?_, fun get => ?_⟩, fun f some => ⟨fun get => ?_, fun set => ?_⟩⟩,
    fieldOf_isSome_iff, fun m n f hm hn => (number_of_fieldOf hm).symm.trans (number_of_fieldOf hn),
    fun p v => ⟨?_, fun n f colour hf => ?_, ?_, ?_, ?_, ?_⟩, fun p k c => ⟨fun colour => ?_, fun colour => ?_⟩⟩
  · rw [exec_profileSet_of_accepts set, State.psSet, none]; rfl
  · rw [exec_profileGet_of_accepts get, State.psGet, none]; rfl
  · rw [exec_profileGet_of_accepts get, State.psGet, some]; rfl
  · refine ⟨s.ps.profile.put (f.range.clamp v) f, ?_, Profile.get_put_same _ (f.clamp_clamp v),
      fun g other => Profile.get_put_other _ other _⟩
    rw [exec_profileSet_of_accepts set, State.psSet, some]; rfl
  · have fold : p.get .fold = if p.fold = true then 1 else 0 := by
      cases h : p.fold <;> simp [Profile.get, h]
    simp only [List.forall_mem_cons]
    exact ⟨⟨_, rfl, rfl, rfl⟩, ⟨_, rfl, rfl, fold⟩, ⟨_, rfl, rfl, rfl⟩, ⟨_, rfl, rfl, rfl⟩, ⟨_, rfl, rfl, rfl⟩,
      ⟨_, rfl, rfl, rfl⟩, ⟨_, rfl, rfl, rfl⟩, ⟨_, rfl, rfl, rfl⟩, ⟨_, rfl, rfl, rfl⟩, ⟨_, rfl, rfl, rfl⟩,
      ⟨_, rfl, rfl, rfl⟩, ⟨_, rfl, rfl, rfl⟩, ⟨_, rfl, rfl, rfl⟩, ⟨_, rfl, rfl, rfl⟩, ⟨_, rfl, rfl, rfl⟩,
      ⟨_, rfl, rfl, rfl⟩, ⟨_, rfl, rfl, rfl⟩, ⟨_, rfl, rfl, rfl⟩, ⟨_, rfl, rfl, rfl⟩, ⟨_, rfl, rfl, rfl⟩,
      ⟨_, rfl, rfl, rfl⟩, ⟨_, rfl, rfl, rfl⟩, ⟨_, rfl, rfl, rfl⟩, ⟨_, rfl, rfl, rfl⟩, ⟨_, rfl, rfl, rfl⟩,
      ⟨_, rfl, rfl, rfl⟩, ⟨_, rfl, rfl, rfl⟩, ⟨_, rfl, rfl, rfl⟩, ⟨_, rfl, rfl, rfl⟩, fun _ h => nomatch h⟩
  · rw [range_of_colour colour hf]; rfl
  · exact ⟨_, rfl, rfl, FieldRange.clamp_zeroOr_even 12 64 v (by omega) (by omega)⟩
  · exact ⟨_, rfl, rfl, FieldRange.clamp_zeroOr_even 24 160 v (by omega) (by omega)⟩
  · exact ⟨_, rfl, rfl, FieldRange.clamp_zeroOr_even 1 60 v (by omega) (by omega)⟩
  · exact ⟨_, rfl, rfl, rfl⟩
  · match k, colour with
    | 0, h | 1, h | 2, h | 3, h | 4, h | 5, h | 6, h | 7, h | 8, h =>
      obtain rfl := Option.some.inj h
      exact ⟨⟨_, rfl, rfl⟩, ⟨_, rfl, rfl⟩, ⟨_, rfl, rfl⟩⟩
  · match k, colour with
    | 0, h | 1, h | 2, h | 3, h | 4, h =>
      obtain rfl := Option.some.inj h
      exact ⟨⟨_, rfl, rfl⟩, ⟨_, rfl, rfl⟩, ⟨_, rfl, rfl⟩⟩

/-! ### PROFILE-SAVE (R180) -/

/-- Settles O60: the save begins with the live profile, and ends by the comparison. -/
theorem profileIsSaved : Obligations.ProfileIsSaved := by
  unfold Obligations.ProfileIsSaved
  refine ⟨fun src s taken => congrArg Host.Outcome.next (State.command_of_accepts taken State.psSave),
    fun s copy outside saving => ?_⟩
  have ends (matched : Bool) : exec (.profileSaveEnd matched) s = .next (s.endSave matched) :=
    congrArg Host.Outcome.next (State.outsideReset_of outside (State.endSave matched))
  rw [ends, ends, State.endSave, State.endSave, saving]
  exact ⟨rfl, rfl⟩

end Sys2Proof.Machine
end

section
/-! PROOFS. The stage's commands, its confirmations and its clock (chapter 4), written out. -/

namespace Sys2Proof.Machine

/-! ### PAUSE and RESUME (R72) -/

/-- Settles O39: both commands are `State.scFreeze`, by the stage. -/
theorem pauseAndResume : Obligations.PauseAndResume := by
  unfold Obligations.PauseAndResume
  intro src s
  have taken {c : Command} {old new : StageState} (h : s.accepts src c) :
      s.command src c true (State.scFreeze src c old new) = (s.route src c).scFreeze src c old new :=
    State.command_of_accepts h _
  refine ⟨fun h => ⟨fun stage => ?_, fun stage => ?_⟩, fun h => ⟨fun stage => ?_, fun stage => ?_⟩⟩
  · exact congrArg Host.Outcome.next ((taken h).trans (if_pos stage))
  · exact congrArg Host.Outcome.next ((taken h).trans (if_neg stage))
  · exact congrArg Host.Outcome.next ((taken h).trans (if_pos stage))
  · exact congrArg Host.Outcome.next ((taken h).trans (if_neg stage))

/-! ### START (R67) -/

theorem exec_start_of_accepts {src : Source} {s : State} (h : s.accepts src .start) (ticket offset : Nat) :
    exec (.start src ticket offset) s = .next ((s.route src .start).scStart src ticket offset) :=
  congrArg Host.Outcome.next (State.command_of_accepts h (State.scStart src ticket offset))

theorem StageController.returnState_eq_none {c : StageController} (ready : c.stage ≠ .ready) (result : c.stage ≠ .result) :
    c.returnState = none := by
  unfold StageController.returnState
  cases h : c.stage <;> simp_all

theorem StageController.returnState_eq_some {c : StageController} (h : c.stage = .ready ∨ c.stage = .result) :
    c.returnState = some (if c.stage = .ready then .ready else .result) := by
  unfold StageController.returnState
  obtain h | h := h <;> simp [h]

theorem SongLoader.loadedSong_eq_some {sl : SongLoader} {ticket : Nat} {n : SlotName} {g : Song}
    (carrying : sl.carrying ticket = some n) (loaded : sl.get n = .loaded g) : sl.loadedSong ticket = some g := by
  simp [SongLoader.loadedSong, carrying, loaded]

theorem SongLoader.loadedSong_eq_none {sl : SongLoader} {ticket : Nat}
    (h : ∀ n g, sl.carrying ticket = some n → sl.get n ≠ .loaded g) : sl.loadedSong ticket = none := by
  unfold SongLoader.loadedSong
  split
  · next g found =>
    obtain ⟨n, carrying, loaded⟩ := Option.map_eq_some_iff.1 found
    exact absurd loaded (h n g carrying)
  · rfl

/-- Settles O37: START by the checks of R67 in their order, and a notice by whether the QM is idle. -/
theorem startIsTaken : Obligations.StartIsTaken := by
  unfold Obligations.StartIsTaken
  refine ⟨fun src ticket offset s h => ⟨fun ready result => ?_, fun back => ⟨fun missing => ?_, ?_⟩⟩, fun s n => ?_⟩
  · have none : (s.route src .start).sc.returnState = none := StageController.returnState_eq_none ready result
    rw [exec_start_of_accepts h, State.scStart, none]; rfl
  · have ret := StageController.returnState_eq_some back
    have none : (if s.qm.cuedIs ticket then s.sl.loadedSong ticket else none) = none := by
      obtain other | unloaded := missing
      · rw [QueueManager.cuedIs_eq_false_iff.2 other]; rfl
      · rw [SongLoader.loadedSong_eq_none unloaded, ite_self]
    rw [exec_start_of_accepts h, State.scStart, State.route_sc, ret, State.route_qm, State.route_sl, none]; rfl
  · intro e n g endTime cued carries carrying loaded ending
    have ret := StageController.returnState_eq_some back
    have song : (if s.qm.cuedIs ticket then s.sl.loadedSong ticket else none) = some g := by
      rw [QueueManager.cuedIs_eq_true_iff.2 ⟨e, cued, carries⟩]
      exact SongLoader.loadedSong_eq_some carrying loaded
    have taken : exec (.start src ticket offset) s
        = .next (if g.index.endTime.any (fun e => offset < e)
            then (s.route src .start).beginStart ticket offset g (if s.sc.stage = .ready then .ready else .result)
            else (s.route src .start).answer src .start (refusedWith .badValue)) := by
      rw [exec_start_of_accepts h, State.scStart, State.route_sc, ret, State.route_qm, State.route_sl, song]
    rw [taken]
    refine ⟨fun late => ?_, fun early => ?_⟩
    · rw [if_neg (by simp [ending, late])]; rfl
    · rw [if_pos (by simp [ending, early]), State.beginStart, ending]; rfl
  · constructor
    · intro idle
      simp [State.arrive, idle, State.take, QueueManager.begin, Operation.source, State.rightsOf]
    · intro busy
      obtain ⟨idle, -⟩ | ⟨-, ⟨_, op, -⟩ | ⟨op, -⟩ | ⟨m, op, h⟩⟩ := s.arrive_cases (.notice n)
      · exact absurd idle busy
      · cases op
      · cases op
      · cases op; exact h

/-! ### SYNC (R73, R74) -/

theorem exec_sync_of_accepts {src : Source} {s : State} (h : s.accepts src .sync) (time : Nat) :
    exec (.sync src time) s = .next ((s.route src .sync).scSync src time) :=
  congrArg Host.Outcome.next (State.command_of_accepts h (State.scSync src time))

theorem StageController.onSong_eq_false {c : StageController} (playing : c.stage ≠ .playing) (paused : c.stage ≠ .paused) :
    c.onSong = false := by
  rw [← Bool.not_eq_true, StageController.onSong_iff]
  exact fun h => h.elim playing paused

theorem State.isSeek_iff (s : State) (t : Nat) :
    s.isSeek t = true
      ↔ s.sc.songTime + s.ps.profile.syncWindow < t ∨ t + s.ps.profile.syncWindow < s.sc.songTime := by
  simp only [State.isSeek, decide_eq_true_eq]
  omega

/-- SYNC on a song with an end time. -/
theorem State.scSync_of_onSong {s : State} {time stop t : Nat} (src : Source) (song : s.sc.onSong = true)
    (ending : s.sc.endTime = some stop) (ht : t = min time stop) :
    s.scSync src time
      = (if t = stop then (s.setTime t).finalise .completed else s.setTime t).answer src .sync
          ⟨.ok, { clamped := decide (stop < time) },
            be3 t ++ encBool (s.isSeek t) ++ be2 (s.setTime t).sc.seekCount ++ encBool (t == stop)⟩ := by
  have songEnd : s.sc.songEnd = stop := by simp [StageController.songEnd, ending]
  have clamped : clampNat 0 stop time = t := by rw [ht, clampNat]; omega
  have flag : (t != time) = decide (stop < time) := by
    rw [Bool.eq_iff_iff, bne_iff_ne, decide_eq_true_eq]
    omega
  unfold State.scSync
  rw [if_pos song]
  dsimp only
  rw [songEnd, clamped, flag, State.endIf]
  by_cases h : t = stop
  · simp only [h, beq_self_eq_true, if_true]; rfl
  · have ne : (t == stop) = false := by simpa using h
    simp only [ne, h, if_false]
    rfl

/-- Settles O40: SYNC by the sync window, both sides of it written out. -/
theorem syncCorrectsOrSeeks : Obligations.SyncCorrectsOrSeeks := by
  unfold Obligations.SyncCorrectsOrSeeks
  intro src time stop t seeks s u moved h
  refine ⟨fun playing paused => ?_, fun song ending ht hseeks hu => ⟨fun ahead behind hmoved => ?_, fun far hmoved => ?_⟩⟩
  · rw [exec_sync_of_accepts h, State.scSync, if_neg (by simp [StageController.onSong, playing, paused])]; rfl
  · have near : (s.route src .sync).isSeek t = false := by
      rw [← Bool.not_eq_true, State.isSeek_iff]
      simp only [State.route_sc, State.route_ps]
      omega
    have time : (s.route src .sync).setTime t = moved := by
      rw [State.setTime, near, hmoved]; rfl
    rw [exec_sync_of_accepts h,
      State.scSync_of_onSong src (s := s.route src .sync) ((StageController.onSong_iff _).2 song) ending ht, time, near,
      hmoved]
    rfl
  · have seek : (s.route src .sync).isSeek t = true := (State.isSeek_iff _ _).2 far
    have time : (s.route src .sync).setTime t = moved := by
      rw [State.setTime, seek, hmoved, hu, hseeks]; rfl
    rw [exec_sync_of_accepts h,
      State.scSync_of_onSong src (s := s.route src .sync) ((StageController.onSong_iff _).2 song) ending ht, time, seek,
      hmoved, hu]
    rfl

/-! ### KEY, KEY-STEP and TEMPO (R75, R76) -/

theorem exec_key_of_accepts {src : Source} {s : State} (h : s.accepts src .key) (k : Int) :
    exec (.key src k) s = .next ((s.route src .key).setKey src .key k) :=
  congrArg Host.Outcome.next (State.command_of_accepts h (State.setKey src .key k))

theorem exec_keyStep_of_accepts {src : Source} {s : State} (h : s.accepts src .keyStep) (d : Int) :
    exec (.keyStep src d) s = .next ((s.route src .keyStep).scKeyStep src d) :=
  congrArg Host.Outcome.next (State.command_of_accepts h (State.scKeyStep src d))

theorem exec_tempo_of_accepts {src : Source} {s : State} (h : s.accepts src .tempo) (p : Nat) :
    exec (.tempo src p) s = .next ((s.route src .tempo).scTempo src p) :=
  congrArg Host.Outcome.next (State.command_of_accepts h (State.scTempo src p))

theorem State.rightsHold_rightsOf (s : State) (src : Source) :
    rightsHold (s.rightsOf src) .key = true ↔ src = .player ∨ rightsHold (s.port src).rights .key = true := by
  unfold State.rightsOf
  by_cases player : src = .player
  · simp only [player, if_true, true_or, iff_true]; decide
  · simp [player]

/-- A key set on a song by a source with the KEY right. -/
theorem State.setKey_of_onSong {s : State} {src : Source} (c : Command) (asked : Int)
    (right : rightsHold (s.rightsOf src) .key = true) (song : s.sc.onSong = true) {k : Int}
    (hk : k = max (-6) (min 6 asked)) :
    (k = s.sc.key → s.setKey src c asked = s.answer src c ⟨.ok, { clamped := k != asked }, encSigned k⟩)
      ∧ (k ≠ s.sc.key →
          s.setKey src c asked
            = ((s.withSc { s.sc with key := k }).raiseAll .stageChanged).answer src c
                ⟨.ok, { clamped := k != asked }, encSigned k⟩) := by
  have set : s.setKey src c asked
      = ((s.withSc { s.sc with key := k }).stageChangedIf (k != s.sc.key)).answer src c
          ⟨.ok, { clamped := k != asked }, encSigned k⟩ := by
    rw [State.setKey, right, if_neg (by simp), if_pos song, hk]; rfl
  refine ⟨fun same => ?_, fun other => ?_⟩
  · rw [set, same, bne_self_eq_false]; rfl
  · rw [set, State.stageChangedIf, if_pos (by simpa using other)]

/-- Settles O41: the checks of R75 and R76 in their order, then whether the value moves. -/
theorem keyAndTempoMove : Obligations.KeyAndTempoMove := by
  unfold Obligations.KeyAndTempoMove
  refine ⟨fun src s i c asked h => ⟨fun d up down hc => ?_, fun row => ?_⟩, fun src p s h => ⟨fun playing paused => ?_,
    fun song k hk => ?_⟩⟩
  · subst hc
    rw [exec_keyStep_of_accepts h, State.scKeyStep, if_neg (by simp [up, down])]; rfl
  · have set : exec i s = .next ((s.route src c).setKey src c asked) := by
      obtain ⟨rfl, rfl⟩ | ⟨d, step, rfl, rfl, rfl⟩ := row
      · exact exec_key_of_accepts h asked
      · rw [exec_keyStep_of_accepts h, State.scKeyStep, if_pos step]; rfl
    refine ⟨fun panel without => ?_, fun right => ⟨fun playing paused => ?_, fun song k hk => ?_⟩⟩
    · have none : rightsHold ((s.route src c).rightsOf src) .key = false := by
        rw [State.rightsOf_route, ← Bool.not_eq_true, State.rightsHold_rightsOf]
        simp [panel, without]
      rw [set, State.setKey, none]; rfl
    · have holds : rightsHold ((s.route src c).rightsOf src) .key = true := by
        rwa [State.rightsOf_route, State.rightsHold_rightsOf]
      have off : (s.route src c).sc.onSong = false := StageController.onSong_eq_false playing paused
      rw [set, State.setKey, holds, off]; rfl
    · have holds : rightsHold ((s.route src c).rightsOf src) .key = true := by
        rwa [State.rightsOf_route, State.rightsHold_rightsOf]
      obtain ⟨same, moved⟩ := State.setKey_of_onSong c asked holds ((StageController.onSong_iff _).2 song) hk
      exact ⟨fun e => set.trans (congrArg _ (same e)), fun e => set.trans (congrArg _ (moved e))⟩
  · have off : (s.route src .tempo).sc.onSong = false := StageController.onSong_eq_false playing paused
    rw [exec_tempo_of_accepts h, State.scTempo, off]; rfl
  · have on : (s.route src .tempo).sc.onSong = true := (StageController.onSong_iff _).2 song
    have set : exec (.tempo src p) s
        = .next ((((s.route src .tempo).withSc { s.sc with tempo := k }).stageChangedIf (k != s.sc.tempo)).answer src .tempo
            ⟨.ok, { clamped := k != p }, be1 k⟩) := by
      rw [exec_tempo_of_accepts h, State.scTempo, if_pos on, hk]; rfl
    refine ⟨fun same => ?_, fun other => ?_⟩
    · rw [set, same, bne_self_eq_false]; rfl
    · rw [set, State.stageChangedIf, if_pos (by simpa using other)]

/-! ### STOP and the RETIRE confirmation (R77 to R79) -/

theorem exec_stop_of_accepts {src : Source} {s : State} (h : s.accepts src .stop) :
    exec (.stop src) s = .next ((s.route src .stop).scStop src) :=
  congrArg Host.Outcome.next (State.command_of_accepts h (State.scStop src))

theorem exec_retireConfirmation_of {s : State} {rest : List Confirmation} (outside : s.inReset = false)
    (confirmed : s.qm.toStage = .retire :: rest) :
    exec .retireConfirmation s
      = .next (((((s.withQm { s.qm with toStage := rest }).withSc { s.sc with endTime := none }).showResult).raiseAll
          .songEnded).answerStop) := by
  refine congrArg Host.Outcome.next ((State.outsideReset_of outside State.retireConfirmed).trans ?_)
  simp only [State.retireConfirmed, State.takeConfirmation, confirmed]
  rfl

/-- The answer to a STOP, by whether one is outstanding. -/
theorem State.answerStop_of (s : State) :
    ((s.port .player).condition ≠ .outstanding Command.stop.code → s.answerStop = s)
      ∧ ((s.port .player).condition = .outstanding Command.stop.code →
          s.answerStop = s.answer .player .stop (okWith s.stopPayload)) := by
  refine ⟨fun other => if_neg ?_, fun waits => if_pos ?_⟩
  · exact fun waits => other (eq_of_beq waits)
  · exact beq_iff_eq.2 waits

/-- Settles O42: STOP by the stage, and the confirmation by what it shows and whether a STOP waits. -/
theorem stopAndRetire : Obligations.StopAndRetire := by
  unfold Obligations.StopAndRetire
  refine ⟨fun src s closed h => ⟨fun playing paused => ?_, fun song hclosed => ?_⟩,
    fun s shown rest outside confirmed hshown => ?_⟩
  · have off : (s.route src .stop).sc.onSong = false := StageController.onSong_eq_false playing paused
    rw [exec_stop_of_accepts h, State.scStop, off]; rfl
  · have on : (s.route src .stop).sc.onSong = true := (StageController.onSong_iff _).2 song
    rw [exec_stop_of_accepts h, State.scStop, if_pos on, hclosed]; rfl
  · have shows : ((s.withQm { s.qm with toStage := rest }).withSc { s.sc with endTime := none }).showResult = shown := by
      obtain ⟨stage, h⟩ | ⟨stage, hold, h⟩ | ⟨stage, hold, h⟩ := hshown
      · exact (if_pos stage).trans h.symm
      · exact (if_neg stage).trans ((if_pos hold).trans h.symm)
      · exact (if_neg stage).trans ((if_neg hold).trans h.symm)
    have kept : shown.port .player = (if s.sc.stage ≠ .resetting ∧ s.ps.profile.resultHold = 0
          then (s.port .player).raise .stageChanged else s.port .player)
        ∧ shown.sc.songTime = s.sc.songTime ∧ shown.su = s.su := by
      obtain ⟨stage, h⟩ | ⟨stage, hold, h⟩ | ⟨stage, hold, h⟩ := hshown <;> subst h
      · rw [if_neg (fun h => h.1 stage)]; exact ⟨rfl, rfl, rfl⟩
      · rw [if_pos ⟨stage, hold⟩]; exact ⟨rfl, rfl, rfl⟩
      · rw [if_neg (fun h => hold h.2)]; exact ⟨rfl, rfl, rfl⟩
    obtain ⟨port, time, su⟩ := kept
    have condition : ((shown.raiseAll .songEnded).port .player).condition = (s.port .player).condition := by
      rw [State.port_raiseAll, port]
      split <;> rfl
    obtain ⟨without, waits⟩ := (shown.raiseAll .songEnded).answerStop_of
    rw [condition] at without waits
    rw [exec_retireConfirmation_of outside confirmed, shows]
    refine ⟨fun other => by rw [without other], fun stop => ?_⟩
    rw [waits stop, State.stopPayload, State.raiseAll_sc, State.raiseAll_su, time, su]
    rfl

/-! ### The end of the result (R80) -/

/-- A millisecond outside reset. -/
theorem exec_timebaseMillisecond_of {s : State} (outside : s.inReset = false) :
    exec .timebaseMillisecond s = .next s.scMillisecond.vcMillisecond :=
  congrArg Host.Outcome.next (State.outsideReset_of outside State.millisecond)

theorem exec_holdTimerExpiry_of {s : State} (outside : s.inReset = false) :
    exec .holdTimerExpiry s = .next (if s.sc.holdDue then s.scMillisecond.vcMillisecond else s) :=
  congrArg Host.Outcome.next (State.outsideReset_of outside fun t => if t.sc.holdDue then t.millisecond else t)

theorem exec_songEnd_of {s : State} (outside : s.inReset = false) :
    exec .songEnd s = .next (if s.sc.endDue then s.scMillisecond.vcMillisecond else s) :=
  congrArg Host.Outcome.next (State.outsideReset_of outside fun t => if t.sc.endDue then t.millisecond else t)

theorem State.scMillisecond_of_result {s : State} {n : Nat} (stage : s.sc.stage = .result) (hold : s.sc.hold = .running n) :
    s.scMillisecond = if n ≤ 1 then s.endResult else s.withSc { s.sc with hold := .running (n - 1) } := by
  have left : s.sc.holdLeft = some n := by simp [StageController.holdLeft, stage, hold]
  rw [State.scMillisecond, if_neg (by simp [stage]), left]

/-- Settles O43: both ways end the result by `State.endResult`. -/
theorem resultEnds : Obligations.ResultEnds := by
  unfold Obligations.ResultEnds
  refine ⟨fun src s h => ?_, fun s ended outside stage hended => ⟨fun n hold more => ?_, fun hold => ?_⟩⟩
  · have taken : exec (.skipResult src) s = .next ((s.route src .skipResult).scSkipResult src) :=
      congrArg Host.Outcome.next (State.command_of_accepts h (State.scSkipResult src))
    refine ⟨fun result => ?_, fun other => ?_⟩
    · exact taken.trans (congrArg Host.Outcome.next (if_pos result))
    · exact taken.trans (congrArg Host.Outcome.next (if_neg other))
  · have due : s.sc.holdDue = false := by
      simp [StageController.holdDue, StageController.holdLeft, stage, hold]; omega
    rw [exec_holdTimerExpiry_of outside, exec_timebaseMillisecond_of outside, State.scMillisecond_of_result stage hold,
      if_neg (Nat.not_le.2 more), due]
    exact ⟨rfl, rfl⟩
  · have due : s.sc.holdDue = true := by simp [StageController.holdDue, StageController.holdLeft, stage, hold]
    rw [exec_holdTimerExpiry_of outside, exec_timebaseMillisecond_of outside, State.scMillisecond_of_result stage hold,
      if_pos (Nat.le_refl 1), due, hended]
    exact ⟨rfl, rfl⟩

/-! ### STAGE-RESET (R81, R82) -/

/-- Settles O44: the command by the stage, and its confirmation. -/
theorem stageResetRuns : Obligations.StageResetRuns := by
  unfold Obligations.StageResetRuns
  refine ⟨fun src s h => ?_, fun s rest outside confirmed => ?_⟩
  · have taken : exec (.stageReset src) s = .next ((s.route src .stageReset).scStageReset src) :=
      congrArg Host.Outcome.next (State.command_of_accepts h (State.scStageReset src))
    refine ⟨fun busy => ?_, fun starting resetting => ?_⟩
    · exact taken.trans (congrArg Host.Outcome.next (if_pos busy))
    · exact taken.trans (congrArg Host.Outcome.next (if_neg fun h => h.elim starting resetting))
  · refine congrArg Host.Outcome.next ((State.outsideReset_of outside State.resetConfirmed).trans ?_)
    simp only [State.resetConfirmed, State.takeConfirmation, confirmed]
    rfl

/-! ### The millisecond (R70, R71) -/

/-- The clock's four ways, as R70 gives them (entry 44 for the last two). -/
theorem StageController.advance_eq {c : StageController} {stop sum top : Nat} (ending : c.endTime = some stop)
    (hsum : sum = c.remainder + c.tempo) (htop : top = max c.songTime stop) {moved : StageController}
    (h : (sum < 100 ∧ moved = { c with remainder := sum })
      ∨ (100 ≤ sum ∧ sum < 200 ∧ moved = { c with songTime := min (c.songTime + 1) top, remainder := sum - 100 })
      ∨ (200 ≤ sum ∧ Config.tempoCarry sum = none
          ∧ moved = { c with songTime := min (c.songTime + 2) top, remainder := sum - 200 })
      ∨ ∃ r : Fin 100, 200 ≤ sum ∧ Config.tempoCarry sum = some r
          ∧ moved = { c with songTime := min (c.songTime + 1) top, remainder := r }) : c.advance = moved := by
  have songEnd : c.songEnd = stop := by simp [StageController.songEnd, ending]
  have by_ (n left : Nat) : c.moved n left = { c with songTime := min (c.songTime + n) top, remainder := left } := by
    rw [StageController.moved, songEnd, htop]
  unfold StageController.advance
  dsimp only
  rw [← hsum]
  obtain ⟨low, h⟩ | ⟨low, high, h⟩ | ⟨low, carry, h⟩ | ⟨r, low, carry, h⟩ := h
  · have stays : min (c.songTime + 0) top = c.songTime := by omega
    rw [if_pos low, by_, stays, h]
  · rw [if_neg (by omega), if_pos high, by_, h]
  · rw [if_neg (by omega), if_neg (by omega), carry, h]; exact by_ 2 _
  · rw [if_neg (by omega), if_neg (by omega), carry, h]; exact by_ 1 _

theorem StageController.endDue_iff {c : StageController} {stop : Nat} (playing : c.stage = .playing)
    (ending : c.endTime = some stop) : c.endDue = true ↔ stop ≤ c.advance.songTime := by
  simp [StageController.endDue, StageController.songEnd, playing, ending]

theorem State.scMillisecond_of_playing {s : State} (playing : s.sc.stage = .playing) :
    s.scMillisecond = (s.withSc s.sc.advance).endIf s.sc.endDue := if_pos playing

/-- The VC's part of a millisecond leaves the song, the queue, the slots, the PT and the SU. -/
theorem State.vcMillisecond_blocks (s : State) :
    s.vcMillisecond.sc = s.sc ∧ s.vcMillisecond.qm = s.qm ∧ s.vcMillisecond.sl = s.sl ∧ s.vcMillisecond.pt = s.pt
      ∧ s.vcMillisecond.su = s.su := by
  unfold State.vcMillisecond
  dsimp only
  split
  · simp [State.videoLost, State.frameStart]
  · exact ⟨rfl, rfl, rfl, rfl, rfl⟩

theorem VideoCompositor.lossDue_eq_false {v : VideoCompositor}
    (h : v.lock = .locked → ∀ n, v.lossTimer = some n → 1 < n) : v.lossDue = false := by
  unfold VideoCompositor.lossDue
  cases lock : v.lock with
  | lost => rfl
  | locked =>
    cases timer : v.lossTimer with
    | none => rfl
    | some n => simpa using h lock n timer

/-- The clock of a state that is not PLAYING. -/
theorem State.scMillisecond_clock {s : State} (stage : s.sc.stage ≠ .playing) :
    s.scMillisecond.sc.songTime = s.sc.songTime ∧ s.scMillisecond.sc.remainder = s.sc.remainder := by
  unfold State.scMillisecond
  rw [if_neg stage]
  split
  · split <;> exact ⟨rfl, rfl⟩
  · exact ⟨rfl, rfl⟩

theorem StageController.holdLeft_eq_none {c : StageController}
    (h : c.stage ≠ .result ∨ ∀ n, c.hold ≠ .running n) : c.holdLeft = none := by
  unfold StageController.holdLeft
  split
  · next stage hold => exact (h.elim (fun k => k stage) (fun k => k _ hold)).elim
  · rfl

/-- Settles O45: the clock's ways in PLAYING, the other stage states, and the VC's part. -/
theorem millisecondRunsTheClock : Obligations.MillisecondRunsTheClock := by
  unfold Obligations.MillisecondRunsTheClock
  refine ⟨fun s moved stop sum top outside playing ending hsum htop ways => ?_, fun s outside stage => ?_, fun s =>
    ⟨fun timer => ?_, s.vcMillisecond_blocks⟩⟩
  · have advanced : moved = s.withSc s.sc.advance := by
      obtain ⟨low, h⟩ | ⟨low, high, h⟩ | ⟨low, carry, h⟩ | ⟨r, low, carry, h⟩ := ways
      · rw [h, StageController.advance_eq ending hsum htop (.inl ⟨low, rfl⟩)]
      · rw [h, StageController.advance_eq ending hsum htop (.inr (.inl ⟨low, high, rfl⟩))]
      · rw [h, StageController.advance_eq ending hsum htop (.inr (.inr (.inl ⟨low, carry, rfl⟩)))]
      · rw [h, StageController.advance_eq ending hsum htop (.inr (.inr (.inr ⟨r, low, carry, rfl⟩)))]
    have due := StageController.endDue_iff playing ending
    rw [exec_timebaseMillisecond_of outside, exec_songEnd_of outside, State.scMillisecond_of_playing playing, ← advanced]
    have time : moved.sc.songTime = s.sc.advance.songTime := by rw [advanced]; rfl
    rw [time]
    refine ⟨fun before => ?_, fun reached => ?_⟩
    · have early : s.sc.endDue = false := by
        rw [← Bool.not_eq_true, due]
        omega
      rw [early]
      exact ⟨rfl, rfl⟩
    · rw [due.2 reached]
      exact ⟨rfl, rfl⟩
  · have due : s.sc.endDue = false := by simp [StageController.endDue, stage]
    refine ⟨by rw [exec_songEnd_of outside, due]; rfl, ⟨_, exec_timebaseMillisecond_of outside, ?_⟩, fun idle => ?_⟩
    · rw [s.scMillisecond.vcMillisecond_blocks.1]
      exact State.scMillisecond_clock stage
    · have left := StageController.holdLeft_eq_none idle
      have rests : s.scMillisecond = s := by rw [State.scMillisecond, if_neg stage, left]
      have held : s.sc.holdDue = false := by simp [StageController.holdDue, left]
      rw [exec_timebaseMillisecond_of outside, exec_holdTimerExpiry_of outside, rests, held]
      exact ⟨rfl, rfl⟩
  · have loss := VideoCompositor.lossDue_eq_false timer
    unfold State.vcMillisecond
    dsimp only
    rw [loss]
    rfl

end Sys2Proof.Machine
end

section
/-! PROOFS. Single edits at their end, their arrival and their end (chapters 1 and 2). -/

namespace Sys2Proof.Machine

/-! ### WITHDRAW (R17) -/

theorem Entry.hasPair_eq_false_iff {e : Entry} {src : Source} :
    e.hasPair src = false ↔ ∀ r ∈ e.requesters, r.source ≠ src := by
  simp [Entry.hasPair]

theorem QueueManager.applyWithdraw_of_none {q : QueueManager} {t : Nat} (f : InFlight) (src : Source)
    (h : findTicket q.queue t = none) : q.applyWithdraw f src t = q.unchanged (refusedWith .noTicket) := by
  simp [QueueManager.applyWithdraw, h]

/-- WITHDRAW of an entry the queue holds. -/
theorem QueueManager.applyWithdraw_of_some {q : QueueManager} {t : Nat} {e : Entry} (f : InFlight) (src : Source)
    (h : findTicket q.queue t = some e) :
    q.applyWithdraw f src t
      = if e.state = .playing then q.unchanged (refusedWith .inPlay)
        else if e.hasPair src then
          if (e.requesters.filter (fun r => r.source != src)).isEmpty then q.remove e (withdrawAnswer t 0)
          else
            { qm :=
                { q with
                  queue :=
                    updateTicket q.queue t
                      (fun _ => { e with requesters := e.requesters.filter (fun r => r.source != src) }) }
              answer :=
                withdrawAnswer t (((e.requesters.filter (fun r => r.source != src)).map (fun r => r.votes)).sum) }
        else if src = .player || rightsHold f.rights .cancelAny then q.remove e (withdrawAnswer t 0)
        else q.unchanged (refusedWith .notYours) := by
  rw [QueueManager.applyWithdraw, h]
  rfl

/-- Settles O24: the branches of R17 in their order. -/
theorem withdrawOutcome : Obligations.WithdrawOutcome := by
  unfold Obligations.WithdrawOutcome
  refine fun q f src t => ⟨fun none => ?_, fun e found => ?_⟩
  · exact QueueManager.applyWithdraw_of_none f src (findTicket_eq_none_iff.2 none)
  have withdraw := QueueManager.applyWithdraw_of_some f src found
  have ticket : e.ticket = t := (ticket_of_findTicket found).2
  have removed : q.remove e (withdrawAnswer t 0)
      = { qm := { q with queue := q.queue.filter (fun k => k.ticket != t) }
          answer := ⟨.ok, {}, be2 t ++ be1 0⟩
          drop := if e.state = .cued then .lost t else .none } := by
    rw [QueueManager.remove, ticket]; rfl
  refine ⟨fun playing => ?_, fun state none panel without => ?_, fun state all => ?_, fun state own other => ?_⟩
  · exact withdraw.trans (if_pos playing)
  · rw [if_neg state, Entry.hasPair_eq_false_iff.2 none, if_neg (by simp), if_neg (by simp [panel, without])] at withdraw
    exact withdraw
  · refine withdraw.trans (Eq.trans ?_ removed)
    rw [if_neg state]
    obtain ⟨own, only⟩ | ⟨none, right⟩ := all
    · have empty : (e.requesters.filter (fun r => r.source != src)).isEmpty = true := by
        simpa using only
      rw [if_pos (Entry.hasPair_iff.2 own), if_pos empty]
    · rw [Entry.hasPair_eq_false_iff.2 none, if_neg (by simp), if_pos (by simpa using right)]
  · obtain ⟨r, hr, ne⟩ := other
    have kept : ¬ (e.requesters.filter (fun r => r.source != src)).isEmpty = true := by
      simp only [List.isEmpty_iff, List.filter_eq_nil_iff]
      exact fun all => all r hr (by simpa using ne)
    rw [if_neg state, if_pos (Entry.hasPair_iff.2 own), if_neg kept] at withdraw
    exact withdraw

/-! ### RAISE and LOWER (R20) -/

/-- The position of an entry behind others of other tickets. -/
theorem positionOf_append_cons {a b : List Entry} {e : Entry} {t : Nat} (ahead : ∀ k ∈ a, k.ticket ≠ t)
    (ticket : e.ticket = t) : positionOf (a ++ e :: b) t = a.length := by
  rw [positionOf, List.findIdx_append, List.findIdx_eq_length_of_false (by simpa using ahead)]
  simp [List.findIdx_cons, ticket]

theorem QueueManager.applyMove_of_no_right {q : QueueManager} {f : InFlight} {src : Source} (t : Nat) (cls : EntryClass)
    (join : List Entry → Entry → List Entry) (panel : src ≠ .player) (without : rightsHold f.rights .raise = false) :
    q.applyMove f src t cls join = q.unchanged (refusedWith .noRight) :=
  if_pos (by simp [panel, without])

theorem QueueManager.applyMove_of_none {q : QueueManager} {f : InFlight} {src : Source} {t : Nat} (cls : EntryClass)
    (join : List Entry → Entry → List Entry) (right : src = .player ∨ rightsHold f.rights .raise = true)
    (h : findTicket q.queue t = none) : q.applyMove f src t cls join = q.unchanged (refusedWith .noTicket) := by
  rw [QueueManager.applyMove, if_neg (by simpa [or_iff_not_imp_left] using right), h]

theorem QueueManager.applyMove_of_some {q : QueueManager} {f : InFlight} {src : Source} {t : Nat} {e : Entry}
    (cls : EntryClass) (join : List Entry → Entry → List Entry)
    (right : src = .player ∨ rightsHold f.rights .raise = true) (h : findTicket q.queue t = some e) :
    q.applyMove f src t cls join
      = if e.waits then
          QueueManager.placed { q with queue := join (removeTicket q.queue t) { e with cls := cls } } t
        else q.unchanged (refusedWith .wrongState) := by
  rw [QueueManager.applyMove, if_neg (by simpa [or_iff_not_imp_left] using right), h]

/-- Settles O26: the refusals of `QueueManager.applyMove`, and the place each command moves to. -/
theorem raiseAndLowerOutcome : Obligations.RaiseAndLowerOutcome := by
  unfold Obligations.RaiseAndLowerOutcome
  refine fun q f src t => ⟨fun panel without => ⟨?_, ?_⟩, fun right => ⟨fun none => ⟨?_, ?_⟩,
    fun e rest found hrest => ⟨fun stage => ?_, fun waits => ⟨?_, ?_⟩⟩⟩⟩
  · exact QueueManager.applyMove_of_no_right t .priority joinPriorityHead panel without
  · exact QueueManager.applyMove_of_no_right t .normal joinNormalTail panel without
  · exact QueueManager.applyMove_of_none .priority joinPriorityHead right (findTicket_eq_none_iff.2 none)
  · exact QueueManager.applyMove_of_none .normal joinNormalTail right (findTicket_eq_none_iff.2 none)
  · have stays : ¬ e.waits = true := by
      obtain h | h := stage <;> simp [Entry.waits, h]
    exact ⟨(QueueManager.applyMove_of_some .priority joinPriorityHead right found).trans (if_neg stays),
      (QueueManager.applyMove_of_some .normal joinNormalTail right found).trans (if_neg stays)⟩
  all_goals
    have moves : e.waits = true := by simpa [Entry.waits] using waits
    have ticket : e.ticket = t := (ticket_of_findTicket found).2
    have others : ∀ k ∈ rest, k.ticket ≠ t := fun k hk => (mem_removeTicket.1 (hrest ▸ hk)).2
  · refine (QueueManager.applyMove_of_some .priority joinPriorityHead right found).trans ((if_pos moves).trans ?_)
    rw [show removeTicket q.queue t = rest from hrest.symm, QueueManager.placed, joinPriorityHead]
    dsimp only
    rw [positionOf_append_cons (e := { e with cls := .priority })
      (fun k hk => others k (List.takeWhile_subset _ hk)) ticket]
    rfl
  · refine (QueueManager.applyMove_of_some .normal joinNormalTail right found).trans ((if_pos moves).trans ?_)
    rw [show removeTicket q.queue t = rest from hrest.symm, QueueManager.placed, joinNormalTail]
    dsimp only
    rw [positionOf_append_cons (e := { e with cls := .normal }) others ticket]
    rfl

/-! ### UNCUE (R36, R9) -/

theorem QueueManager.applyUncue_of_none {q : QueueManager} (h : cuedEntry q.queue = none) :
    q.applyUncue = q.unchanged (refusedWith .wrongState) := by
  simp [QueueManager.applyUncue, h]

theorem QueueManager.applyUncue_of_some {q : QueueManager} {c : Entry} (h : cuedEntry q.queue = some c) {queue : List Entry}
    (hq : returnCued q.queue c = queue) :
    q.applyUncue
      = { qm := { q with queue := queue }
          answer := ⟨.ok, {}, be2 c.ticket ++ be1 (positionOf queue c.ticket)⟩
          drop := .given c.ticket } := by
  rw [QueueManager.applyUncue, h, ← hq]
  rfl

theorem Entry.absorb_eq (c a : Entry) :
    c.absorb a
      = { c with
          requesters := a.requesters.foldl absorbPair c.requesters
          title := if c.title = [] then a.title else c.title
          singer := if c.singer = none then a.singer else c.singer
          partner := if c.duet = true ∧ c.partner = none then a.partner else c.partner
          cls := if c.cls = .priority ∨ a.cls = .priority then .priority else .normal
          state := a.state
          holder := a.holder } := by
  have singer : c.singer.or a.singer = if c.singer = none then a.singer else c.singer := by
    cases h : c.singer <;> simp
  have partner : (if c.duet then c.partner.or a.partner else c.partner)
      = if c.duet = true ∧ c.partner = none then a.partner else c.partner := by
    cases hd : c.duet <;> cases hp : c.partner <;> simp
  simp only [Entry.absorb, singer, partner, List.isEmpty_iff]

/-- Settles O29: with no CUED entry, and by whether a repeat of its song waits. -/
theorem uncueReturnsTheEntry : Obligations.UncueReturnsTheEntry := by
  unfold Obligations.UncueReturnsTheEntry
  refine fun q f src => ⟨fun none => QueueManager.applyUncue_of_none (cuedEntry_eq_none_iff.2 none),
    fun c back rest left queue cued hrest returns hqueue => QueueManager.applyUncue_of_some cued ?_⟩
  have joined : joinClassHead left back = queue := hqueue.symm
  have removed : removeTicket q.queue c.ticket = rest := hrest.symm
  obtain ⟨alone, rfl, rfl⟩ | ⟨a, repeats, rfl, rfl⟩ := returns
  · have none : waitingSong left c.song = none := waitingSong_eq_none_iff.2 alone
    obtain ⟨-, h⟩ | ⟨a, some, -⟩ := returnCued_cases q.queue c
    · rw [h, removed, joined]
    · rw [removed, none] at some; cases some
  · have some : waitingSong rest c.song = some a := repeats
    obtain ⟨none, -⟩ | ⟨b, found, h⟩ := returnCued_cases q.queue c
    · rw [removed, some] at none; cases none
    · rw [removed, some] at found
      obtain rfl := Option.some.inj found
      rw [h, removed, Entry.absorb_eq]
      exact joined

end Sys2Proof.Machine
end

section
/-! PROOFS. Edits at their port and at their end, and the reads of the queue (chapters 1 and 2). -/

namespace Sys2Proof.Machine

/-! ### Arrival checks (R12, R22) -/

theorem addAccepted_iff (p : AddParams) : addAccepted p = true ↔ (Edit.add p).admitted := by
  simp only [addAccepted, Bool.and_eq_true, decide_eq_true_eq, List.all_eq_true, and_assoc]
  rfl

theorem nameAccepted_iff (name : List Nat) : nameAccepted name = true ↔ (Edit.singerAdd name).admitted := by
  simp only [nameAccepted, Bool.and_eq_true, decide_eq_true_eq, List.all_eq_true, and_assoc]
  rfl

/-- An edit that passes its checks arrives at the QM. -/
theorem exec_edit_of_admitted {i : Instr} {item : BacklogItem} {s : State} (hi : editOf i = some item)
    (h : s.accepts item.source item.edit.command) (admitted : item.edit.admitted) :
    exec i s = .next ((s.route item.source item.edit.command).arrive (.edit item)) := by
  unfold editOf at hi
  split at hi <;> cases hi
  case h_1 src p =>
    exact congrArg Host.Outcome.next
      ((State.command_of_accepts h (State.qmAdd src p)).trans (if_pos ((addAccepted_iff p).2 admitted)))
  case h_9 src name =>
    exact congrArg Host.Outcome.next
      ((State.command_of_accepts h (State.qmSingerAdd src name)).trans (if_pos ((nameAccepted_iff name).2 admitted)))
  all_goals exact congrArg Host.Outcome.next (State.command_of_accepts h (State.qmEdit _ _))

/-- Only ADD and SINGER-ADD have checks to fail. -/
theorem exec_edit_of_not_admitted {i : Instr} {item : BacklogItem} {s : State} (hi : editOf i = some item)
    (h : s.accepts item.source item.edit.command) (refused : ¬ item.edit.admitted) :
    exec i s
      = .next ((s.route item.source item.edit.command).answer item.source item.edit.command ⟨.badValue, {}, []⟩) := by
  unfold editOf at hi
  split at hi <;> cases hi
  case h_1 src p =>
    exact congrArg Host.Outcome.next
      ((State.command_of_accepts h (State.qmAdd src p)).trans (if_neg (mt (addAccepted_iff p).1 refused)))
  case h_9 src name =>
    exact congrArg Host.Outcome.next
      ((State.command_of_accepts h (State.qmSingerAdd src name)).trans (if_neg (mt (nameAccepted_iff name).1 refused)))
  all_goals exact absurd trivial refused

theorem State.arrive_of_idle {s : State} (op : Operation) (idle : s.qm.inFlight = none) : s.arrive op = s.take op := by
  simp [State.arrive, idle]

theorem State.arrive_of_busy {s : State} (op : Operation) (busy : s.qm.inFlight ≠ none) :
    s.arrive op
      = s.withQm (match op with
        | .edit item => { s.qm with backlog := s.qm.backlog ++ [item] }
        | .takeNext => { s.qm with takeNext := some s.qm.backlog.length }
        | .notice n => { s.qm with notices := s.qm.notices ++ [n] }) := by
  cases op <;> simp [State.arrive, busy]

/-- Settles O19: each command's arrival, by its checks and by whether the QM is idle. -/
theorem editsAndTakeNextArrive : Obligations.EditsAndTakeNextArrive := by
  unfold Obligations.EditsAndTakeNextArrive
  refine ⟨fun i item s hi h => ⟨exec_edit_of_not_admitted hi h, fun admitted idle => ?_, fun admitted busy => ?_⟩,
    fun src s h => ⟨fun idle => ?_, fun busy => ?_⟩⟩
  · rw [exec_edit_of_admitted hi h admitted, State.arrive_of_idle _ (by exact idle), State.take, State.rightsOf_route]; rfl
  · rw [exec_edit_of_admitted hi h admitted, State.arrive_of_busy _ (by exact busy)]; rfl
  all_goals
    have taken : exec (.takeNext src) s = .next ((s.route src .takeNext).arrive .takeNext) :=
      congrArg Host.Outcome.next (State.command_of_accepts h State.qmTakeNext)
  · rw [taken, State.arrive_of_idle _ (by exact idle)]; rfl
  · rw [taken, State.arrive_of_busy _ (by exact busy)]; rfl

/-! ### Ends of edits, and drops (R28, R40, R62) -/

theorem exec_endOf {i : Instr} {kind : Command} (hi : endOf i = some kind) {s : State} (outside : s.inReset = false) :
    exec i s = .next (s.endEdit kind) := by
  unfold endOf at hi
  split at hi <;> cases hi
  all_goals exact congrArg Host.Outcome.next (State.outsideReset_of outside _)

theorem State.dropSlots_of_cut {s : State} {test : Slot → Bool} (h : s.sl.loadCut test = true) :
    s.dropSlots test
      = (s.withSl { s.sl.dropWhere test with inFlight := none }).answer .player .loadData (refusedWith .cueLost) :=
  if_pos h

theorem State.dropSlots_of_kept {s : State} {test : Slot → Bool} (h : s.sl.loadCut test = false) :
    s.dropSlots test = s.withSl (s.sl.dropWhere test) :=
  if_neg (by simp [h])

theorem carriesTicket_iff (t : Nat) (c : Slot) :
    carriesTicket t c = true ↔
      (∃ l : Load, c = .loading l ∧ l.ticket = t) ∨ (∃ g : Song, (c = .loaded g ∨ c = .playing g) ∧ g.ticket = t)
        ∨ ∃ f : FailedLoad, c = .failed f ∧ f.ticket = t := by
  cases c <;> simp [carriesTicket, Slot.ticket]

theorem Slot.isPlaying_iff (c : Slot) : c.isPlaying = true ↔ ∃ g, c = .playing g := by
  cases c <;> simp [Slot.isPlaying, Slot.playingSong]

/-- Settles O20: the end of each edit is `State.finish`, and a drop is `State.dropSlots` on the carrier's ticket. -/
theorem editsEnd : Obligations.EditsEnd := by
  unfold Obligations.EditsEnd
  refine ⟨?_, fun s t => ⟨rfl, rfl, rfl⟩, ?_, fun t c => ⟨carriesTicket_iff t c, c.isPlaying_iff⟩⟩
  · rintro i kind item rights threshold s o hi outside inFlight rfl rfl
    have ends : exec i s = .next (s.finish item.source item.edit.command
        (s.qm.applyEdit ⟨.edit item, rights, threshold⟩ item.source item.edit)) := by
      rw [exec_endOf hi outside, State.endEdit_of_inFlight inFlight]
    refine ⟨fun queue roster => ?_, fun changed => ?_⟩
    · rw [ends, State.finish_of_same _ _ ⟨queue, roster⟩]
    · rw [ends, State.finish_of_changed _ _ (by tauto)]
  · rintro s test left rfl
    refine ⟨fun clear => ?_, fun f inFlight hit => ?_⟩
    · refine State.dropSlots_of_kept ?_
      unfold SongLoader.loadCut
      cases h : s.sl.inFlight with
      | none => rfl
      | some f => exact clear f h
    · exact State.dropSlots_of_cut (by simpa [SongLoader.loadCut, inFlight] using hit)

/-! ### Payloads of the reads (R24 to R26, R169, R171) -/

theorem encBool_eq (b : Bool) : encBool b = be1 (if b = true then 1 else 0) := by cases b <;> rfl

theorem encSource_eq (src : Option Source) : encSource src = be1 ((src.map sourceNumber).getD 255) := by
  cases src <;> rfl

theorem encClass_eq (c : EntryClass) : encClass c = be1 (match c with | .priority => 0 | .normal => 1) := by
  cases c <;> rfl

theorem encEntryState_eq (x : EntryState) :
    encEntryState x = be1 (match x with | .waiting => 0 | .held => 1 | .cued => 2 | .playing => 3) := by
  cases x <;> rfl

theorem encEndKind_eq (k : EndKind) :
    encEndKind k = be1 (match k with | .completed => 0 | .stopped => 1 | .aborted => 2) := by
  cases k <;> rfl

theorem summaryPayload_length (position : Nat) (e : Entry) : (summaryPayload position e).length = 12 := by
  cases h : e.cls <;> cases hs : e.state <;>
    simp [summaryPayload, h, hs, encClass, encEntryState, be1, be2, be3, encRoster, encBool]

theorem QueueManager.listPayload_length (q : QueueManager) (position count : Nat) :
    (q.listPayload position count).length = 2 + 12 * min count (q.queue.length - position) := by
  have summaries (l : List (Entry × Nat)) : (l.flatMap fun r => summaryPayload r.2 r.1).length = 12 * l.length := by
    simp [List.length_flatMap, summaryPayload_length, Nat.mul_comm]
  simp only [QueueManager.listPayload, List.length_append, Laws.be1_length, summaries, List.length_zipIdx,
    List.length_take, List.length_drop]

/-- The singers of the roster, counted by their numbers. -/
theorem QueueManager.countP_singers (q : QueueManager) :
    q.roster.toList.countP Option.isSome = (List.range' 1 16).countP (fun n => (q.singerAt n).isSome) := by
  have places : q.roster.toList = (List.range' 1 16).map q.singerAt := by
    refine List.ext_getElem (by simp) fun i hi _ => ?_
    have bound : i < 16 := by simpa using hi
    simp [Nat.add_comm 1 i, q.singerAt_eq_getElem bound]
  rw [places, List.countP_map]
  rfl

/-- The records that fit are the longest leading run within 248 bytes (R26). -/
theorem QueueManager.historyPayload_eq (q : QueueManager) (start count : Nat) {records : List (List Byte)}
    (h : ((q.history.reverse.drop start).take count).map recordPayload = records) :
    ∃ k ≤ records.length, q.historyPayload start count = be1 q.history.length ++ be1 k ++ (records.take k).flatten
      ∧ (records.take k).flatten.length ≤ 248
      ∧ (k < records.length → 248 < (records.take (k + 1)).flatten.length) := by
  obtain ⟨k, hk, fits, short, more⟩ := leadingThatFit_eq 248 records
  refine ⟨k, hk, ?_, short, more⟩
  have items : leadingThatFit (Config.maxPayload - 2)
      (((q.history.reverse.drop start).take count).map recordPayload) = records.take k := h ▸ fits
  rw [QueueManager.historyPayload, items, List.length_take, Nat.min_eq_left hk]

theorem QueueManager.rosterPayload_eq (q : QueueManager) (first : Nat) {records : List (List Byte)}
    (h : (List.range' first (17 - first)).filterMap (fun n => (q.singerAt n).map (singerPayload n)) = records) :
    ∃ k ≤ records.length, q.rosterPayload first
        = be1 ((List.range' 1 16).countP (fun n => (q.singerAt n).isSome)) ++ be1 k ++ (records.take k).flatten
      ∧ (records.take k).flatten.length ≤ 248
      ∧ (k < records.length → 248 < (records.take (k + 1)).flatten.length) := by
  obtain ⟨k, hk, fits, short, more⟩ := leadingThatFit_eq 248 records
  refine ⟨k, hk, ?_, short, more⟩
  have items : leadingThatFit (Config.maxPayload - 2)
      ((List.range' first (17 - first)).filterMap (fun n => (q.singerAt n).map (singerPayload n)))
        = records.take k := h ▸ fits
  rw [QueueManager.rosterPayload, items, List.length_take, Nat.min_eq_left hk, q.countP_singers]

theorem QueueManager.historyPayload_length_le (q : QueueManager) (start count : Nat) :
    (q.historyPayload start count).length ≤ 250 := by
  obtain ⟨k, -, payload, short, -⟩ := q.historyPayload_eq start count rfl
  simp only [payload, List.length_append, Laws.be1_length]
  omega

theorem QueueManager.rosterPayload_length_le (q : QueueManager) (first : Nat) :
    (q.rosterPayload first).length ≤ 250 := by
  obtain ⟨k, -, payload, short, -⟩ := q.rosterPayload_eq first rfl
  simp only [payload, List.length_append, Laws.be1_length]
  omega

/-- Settles O32: each read by its values, then the payloads field by field. -/
theorem queueReadsAnswer : Obligations.QueueReadsAnswer := by
  unfold Obligations.QueueReadsAnswer
  refine ⟨fun src s => ⟨fun h position count => ?_, fun h ticket => ?_, fun h start count => ?_, fun h first => ?_⟩,
    fun n => ⟨rfl, rfl, rfl⟩, ?_, ?_, ?_, ?_⟩
  · have taken : exec (.list src position count) s = .next ((s.route src .list).qmList src position count) :=
      congrArg Host.Outcome.next (State.command_of_accepts h _)
    refine ⟨fun ok => ⟨?_, s.qm.listPayload_length position count⟩, fun bad => ?_⟩
    · rw [taken, State.qmList, if_pos ok]; rfl
    · rw [taken, State.qmList, if_neg (by omega)]; rfl
  · have taken : exec (.query src ticket) s = .next ((s.route src .query).qmQuery src ticket) :=
      congrArg Host.Outcome.next (State.command_of_accepts h _)
    refine ⟨fun none => ?_, fun e found => ?_⟩
    · rw [taken, State.qmQuery, State.route_qm, findTicket_eq_none_iff.2 none]; rfl
    · rw [taken, State.qmQuery, State.route_qm, show findTicket s.qm.queue ticket = some e from found]; rfl
  · have taken : exec (.history src start count) s = .next ((s.route src .history).qmHistory src start count) :=
      congrArg Host.Outcome.next (State.command_of_accepts h _)
    refine ⟨fun ok => ⟨?_, s.qm.historyPayload_length_le start count⟩, fun bad => ?_⟩
    · rw [taken, State.qmHistory, if_pos ok]; rfl
    · rw [taken, State.qmHistory, if_neg (by omega)]; rfl
  · have taken : exec (.roster src first) s = .next ((s.route src .roster).qmRoster src first) :=
      congrArg Host.Outcome.next (State.command_of_accepts h _)
    refine ⟨fun ok => ⟨?_, s.qm.rosterPayload_length_le _⟩, fun bad => ?_⟩
    · rw [taken, State.qmRoster, if_pos ok]; rfl
    · rw [taken, State.qmRoster, if_neg (by omega)]; rfl
  · rintro position e cls state rfl rfl
    refine ⟨?_, ?_⟩
    · simp only [entryPayload, encText, Entry.voteTotal, encRoster, encBool_eq, encSigned, encClass_eq,
        encEntryState_eq, encSource_eq, List.append_assoc] <;> rfl
    · simp only [summaryPayload, Entry.voteTotal, encRoster, encBool_eq, encClass_eq, encEntryState_eq,
        List.append_assoc] <;> rfl
  · rintro q position count shown rfl
    rfl
  · rintro q start count lane record records hlane hrecord rfl
    refine q.historyPayload_eq start count (congrArg (List.map · _) (funext fun h => ?_))
    rw [hrecord, hlane, hlane]
    simp only [recordPayload, encText, encTextOption, encBool_eq, encEndKind_eq, encTime, finalsPayload, encScore,
      List.append_assoc] <;> rfl
  · rintro q first records - rfl
    refine q.rosterPayload_eq first ?_
    have record (n : Nat) (g : Singer) : singerPayload n g
        = be1 n ++ be1 g.name.length ++ g.name.flatMap be2 ++ be1 (sourceNumber g.owner) := by
      simp only [singerPayload, encText, encSource_eq, List.append_assoc]; rfl
    simp only [funext (record _)]

end Sys2Proof.Machine
end

section
/-! PROOFS. Replies, refusals, frames and transactions at the ports (chapter 9). -/

namespace Sys2Proof.Machine

/-! ### A reply enters a place (R157, R162) -/

/-- What a place that takes a reply does to the transmitter: a busy one goes on, an idle panel transmitter begins. -/
theorem Port.fill_sending {p : Port} {src : Source} (atOnce : src ≠ .player → p.sendsAtOnce)
    (idle : src = .player → p.transmitter = none) (pl : Place) (r : Reply) :
    ∃ tx, (if src = .player then p.fill pl r else (p.fill pl r).beginSending) = { p.fill pl r with transmitter := tx }
      ∧ (∀ x, p.transmitter = some x → tx = some x)
      ∧ (src ≠ .player → p.transmitter = none → tx = some ⟨pl, panelWire r.bytes⟩)
      ∧ (src = .player → tx = none) := by
  by_cases h : src = .player
  · refine ⟨p.transmitter, ?_, fun x hx => hx, fun panel => absurd h panel, idle⟩
    rw [if_pos h]
    cases pl <;> rfl
  · obtain ⟨goesOn, begins⟩ := Port.beginSending_fill (atOnce h) pl r
    rw [if_neg h]
    cases ht : p.transmitter with
    | some x =>
      refine ⟨some x, (goesOn x ht).trans ?_, fun y hy => hy, fun _ => (nomatch ·), fun player => absurd player h⟩
      rw [← ht]
      cases pl <;> rfl
    | none => exact ⟨_, begins ht, fun y => (nomatch ·), fun _ _ => rfl, fun player => absurd player h⟩

theorem State.portsConsistent.idle_or_atOnce {s : State} (h : s.portsConsistent) (src : Source) :
    (src ≠ .player → (s.port src).sendsAtOnce) ∧ (src = .player → (s.port src).transmitter = none) := by
  obtain ⟨-, atOnce, -, idle⟩ := h
  refine ⟨fun notPlayer => ?_, ?_⟩
  · obtain player | ⟨panel, rfl⟩ := source_eq_player_or_panel src
    · contradiction
    · exact atOnce panel
  · rintro rfl
    exact idle

/-- Settles O17: the answer is one change of the port's record. -/
theorem answerFillsTheReplyPlace : Obligations.AnswerFillsTheReplyPlace := by
  unfold Obligations.AnswerFillsTheReplyPlace
  intro src c a s consistent _
  obtain ⟨atOnce, idle⟩ := consistent.idle_or_atOnce src
  obtain ⟨tx, port, goesOn, begins, player⟩ :=
    Port.fill_sending (p := { s.port src with condition := .answered }) atOnce idle .reply ⟨c.code, a⟩
  rw [State.port_answer_same, port]
  refine ⟨rfl, rfl, rfl, rfl, goesOn, begins, player, rfl, rfl, rfl, rfl, rfl,
    fun o ho => State.port_answer_other s src o c a ho, ?_⟩
  rw [State.answer_eq_modifyPort]
  exact ⟨PortInterface.modify_transaction _ _ _, PortInterface.modify_miso _ _ _, State.modifyPort_withPorts _ _ _⟩

/-! ### The commands of the availability table (R163) -/

theorem Command.ofCode_code (c : Command) : Command.ofCode c.code = some c := by cases c <;> rfl

/-- A command's row is the command at its port. -/
theorem exec_commandFrame {i : Instr} {f : CommandFrame} (h : commandFrame i = some f) (s : State) :
    ∃ ok owner, exec i s = .next (s.command f.source f.command ok owner) := by
  unfold commandFrame at h
  split at h <;> cases h
  all_goals exact ⟨_, _, rfl⟩

theorem State.command_of_busy {s : State} {src : Source} (outside : s.inReset = false)
    (busy : (s.port src).condition ≠ .free) (c : Command) (ok : Bool) (owner : State → State) :
    s.command src c ok owner = s.refuse src c.code .busy := by
  simp [State.command, outside, Port.busy, busy]

theorem State.command_of_badLength {s : State} {src : Source} {c : Command} (h : s.accepts src c) (owner : State → State) :
    s.command src c false owner = s.refuse src c.code .badLength := by
  obtain ⟨outside, free, allowed⟩ := h
  simp [State.command, outside, Port.busy, free, allowed]

/-! ### A frame at its port (R163) -/

theorem State.takeFrame_of_unknown {s : State} {src : Source} {code : Byte} (unlisted : Command.ofCode code = none)
    (free : (s.port src).condition = .free) (params : List Byte) :
    s.takeFrame src code params = s.refuse src code .unknown := by
  simp [State.takeFrame, unlisted, Port.busy, free]

theorem State.takeFrame_code (s : State) (src : Source) (c : Command) (params : List Byte) :
    s.takeFrame src c.code params = s.command src c (c.lengthOk params) (c.owner src params) := by
  simp [State.takeFrame, Command.ofCode_code]

/-- The codes the table leaves out (section 9.5). -/
theorem Command.ofCode_of_unlisted {code : Byte}
    (h : ∀ r ∈ [(0x10, 0x1A), (0x20, 0x23), (0x30, 0x33), (0x40, 0x4A), (0x50, 0x54), (0x60, 0x62), (0x70, 0x72)],
      code.toNat < r.1 ∨ r.2 < code.toNat) : Command.ofCode code = none := by
  refine List.find?_eq_none.2 fun c _ => ?_
  simp only [beq_iff_eq]
  rintro rfl
  revert h
  cases c <;> decide

/-! ### A panel line (R160 to R162) -/

theorem State.receiver_receive (s : State) (src : Source) (r : Receiver) : ((s.receive src r).port src).receiver = r := by
  rw [State.receive, State.port_modifyPort_same]

theorem State.receive_receive (s : State) (src : Source) (r q : Receiver) :
    (s.receive src r).receive src q = s.receive src q := by
  rw [State.receive, State.receive, State.modifyPort_modifyPort]
  rfl

theorem State.receive_hunting {s : State} {src : Source} (h : (s.port src).receiver = .hunting) :
    s.receive src .hunting = s :=
  State.modifyPort_id s src _ (by rw [← h])

/-- The parameter bytes of a frame are gathered to the last. -/
theorem State.panelBytes_parameters (src : Source) (code len : Byte) (bytes : List Byte) (some : bytes ≠ []) :
    ∀ (s : State) (taken : List Byte),
      bytes.foldl (State.panelByte src) (s.receive src (.parameters code len taken bytes.length))
        = s.receive src (.check code len (taken ++ bytes)) := by
  induction bytes with
  | nil => exact absurd rfl some
  | cons b rest ih =>
    intro s taken
    have byte : State.panelByte src (s.receive src (.parameters code len taken (b :: rest).length)) b
        = if rest = [] then s.receive src (.check code len (taken ++ [b]))
          else s.receive src (.parameters code len (taken ++ [b]) rest.length) := by
      rw [State.panelByte, State.receiver_receive]
      simp only [State.receive_receive]
      cases rest <;> simp
    rw [List.foldl_cons, byte]
    by_cases last : rest = []
    · rw [if_pos last, last, List.foldl_nil]
    · rw [if_neg last, ih last, List.append_assoc, List.singleton_append]

/-- A frame on a line that is HUNTING, to the byte before its check byte. -/
theorem State.panelBytes_header {s : State} {src : Source} (hunting : (s.port src).receiver = .hunting)
    (code len : Byte) (params : List Byte) (fits : params.length ≤ 250) (counted : len.toNat = params.length) :
    (0xA5#8 :: code :: len :: params).foldl (State.panelByte src) s = s.receive src (.check code len params) := by
  have header : [0xA5#8, code, len].foldl (State.panelByte src) s
      = if params = [] then s.receive src (.check code len []) else s.receive src (.parameters code len [] params.length) := by
    have marker : State.panelByte src s 0xA5#8 = s.receive src .code := by simp [State.panelByte, hunting]
    have second : State.panelByte src (s.receive src .code) code = s.receive src (.length code) := by
      simp [State.panelByte, State.receiver_receive, State.receive_receive]
    have none : len = 0#8 ↔ params = [] := by
      rw [← List.length_eq_zero_iff, ← counted]
      exact ⟨fun h => by simp [h], fun h => BitVec.eq_of_toNat_eq h⟩
    have third : State.panelByte src (s.receive src (.length code)) len
        = if params = [] then s.receive src (.check code len [])
          else s.receive src (.parameters code len [] params.length) := by
      rw [State.panelByte, State.receiver_receive]
      simp only [State.receive_receive, counted, none, if_neg (Nat.not_lt.2 fits)]
    rw [List.foldl_cons, marker, List.foldl_cons, second, List.foldl_cons, third, List.foldl_nil]
  have cut : 0xA5#8 :: code :: len :: params = [0xA5#8, code, len] ++ params := rfl
  rw [cut, List.foldl_append, header]
  by_cases none : params = []
  · rw [if_pos none, none, List.foldl_nil]
  · rw [if_neg none, State.panelBytes_parameters src code len params none]
    rfl

/-- A whole frame on a line that is HUNTING: taken where its check byte is right, and refused otherwise. -/
theorem State.panelBytes_frame {s : State} {src : Source} (hunting : (s.port src).receiver = .hunting)
    (code len check : Byte) (params : List Byte) (fits : params.length ≤ 250) (counted : len.toNat = params.length) :
    (0xA5#8 :: code :: len :: params ++ [check]).foldl (State.panelByte src) s
      = if crc8 (code :: len :: params) = check then s.takeFrame src code params else s.refuse src code .badCheck := by
  rw [List.foldl_append, State.panelBytes_header hunting code len params fits counted, List.foldl_cons, List.foldl_nil,
    State.panelByte, State.receiver_receive]
  simp only [State.receive_receive, State.receive_hunting hunting]

/-- A length byte that is too great ends the frame (R160). -/
theorem State.panelBytes_tooLong {s : State} {src : Source} (hunting : (s.port src).receiver = .hunting)
    (code : Byte) {len : Byte} (long : 250 < len.toNat) :
    [0xA5#8, code, len].foldl (State.panelByte src) s = s.refuse src code .badLength := by
  have marker : State.panelByte src s 0xA5#8 = s.receive src .code := by simp [State.panelByte, hunting]
  have second : State.panelByte src (s.receive src .code) code = s.receive src (.length code) := by
    simp [State.panelByte, State.receiver_receive, State.receive_receive]
  rw [List.foldl_cons, marker, List.foldl_cons, second, List.foldl_cons, List.foldl_nil, State.panelByte,
    State.receiver_receive]
  simp only [if_pos long, State.receive_receive, State.receive_hunting hunting]

theorem exec_panelFrame_of {s : State} (outside : s.inReset = false) (panel : Panel) (bytes : List Byte) :
    exec (.panelFrame panel bytes) s = .next (bytes.foldl (State.panelByte panel.source) s) :=
  congrArg Host.Outcome.next (State.outsideReset_of outside _)

/-- A whole frame with its check byte, as a panel sends it. -/
theorem exec_panelFrame_wire {s : State} (outside : s.inReset = false) {panel : Panel}
    (hunting : (s.port panel.source).receiver = .hunting) (code len : Byte) (params : List Byte)
    (fits : params.length ≤ 250) (counted : len.toNat = params.length) :
    exec (.panelFrame panel (panelWire (code :: len :: params))) s = .next (s.takeFrame panel.source code params) := by
  rw [exec_panelFrame_of outside, panelWire, State.panelBytes_frame hunting code len _ params fits counted, if_pos rfl]

/-! ### Parameter lengths (section 9.5) -/

theorem paramAt_one (params : List Byte) (k : Nat) : paramAt params k 1 = ((params[k]?).getD 0#8).toNat := by
  cases h : params[k]? with
  | none =>
    rw [List.getElem?_eq_none_iff] at h
    simp [paramAt, List.drop_eq_nil_of_le h, beValue]
  | some b =>
    obtain ⟨hk, rfl⟩ := List.getElem?_eq_some_iff.1 h
    rw [paramAt, List.drop_eq_getElem_cons hk, List.take_succ_cons, List.take_zero]; simp [beValue]

/-! ### A Player transaction (R158, R159) -/

/-- The bytes of a write are gathered. -/
theorem State.clockBytes_writing (bytes : List Byte) :
    ∀ (s : State) (taken : List Byte), s.ports.transaction = some (.writing taken) →
      bytes.foldl State.clockByte s
        = s.withPorts
            { s.ports with
              miso := s.ports.miso ++ List.replicate bytes.length 0xFF#8
              transaction := some (.writing (taken ++ bytes)) } := by
  induction bytes with
  | nil =>
    intro s taken h
    simp [← h, State.withPorts]
  | cons b rest ih =>
    intro s taken h
    have byte : s.clockByte b = s.shift [0xFF#8] (.writing (taken ++ [b])) := by rw [State.clockByte, h]
    rw [List.foldl_cons, byte, ih _ (taken ++ [b]) rfl]
    simp [State.shift, State.withPorts, List.replicate_succ]

/-- The bytes of a transaction that is ignored, or that has sent its reply. -/
theorem State.clockBytes_idle {tr : Transaction} (bytes : List Byte)
    (idle : ∀ (s : State) (b : Byte), s.ports.transaction = some tr → s.clockByte b = s.shift [0xFF#8] tr) :
    ∀ s : State, s.ports.transaction = some tr →
      bytes.foldl State.clockByte s
        = s.withPorts
            { s.ports with
              miso := s.ports.miso ++ List.replicate bytes.length 0xFF#8
              transaction := some tr } := by
  induction bytes with
  | nil =>
    intro s h
    simp [← h, State.withPorts]
  | cons b rest ih =>
    intro s h
    rw [List.foldl_cons, idle s b h, ih _ rfl]
    simp [State.shift, State.withPorts, List.replicate_succ]

theorem State.clockBytes_spent (bytes : List Byte) {s : State} (h : s.ports.transaction = some .spent) :
    bytes.foldl State.clockByte s
      = s.withPorts
          { s.ports with
            miso := s.ports.miso ++ List.replicate bytes.length 0xFF#8
            transaction := some .spent } :=
  State.clockBytes_idle bytes (fun s b h => by rw [State.clockByte, h]) s h

theorem State.clockBytes_ignored (bytes : List Byte) {select : Byte} {s : State}
    (h : s.ports.transaction = some (.ignored select)) :
    bytes.foldl State.clockByte s
      = s.withPorts
          { s.ports with
            miso := s.ports.miso ++ List.replicate bytes.length 0xFF#8
            transaction := some (.ignored select) } :=
  State.clockBytes_idle bytes (fun s b h => by rw [State.clockByte, h]) s h

/-- The first byte of a transaction, as chip select falls. -/
theorem State.clockByte_selects {s : State} (h : s.ports.transaction = none) (select : Byte) :
    s.selectFalls.clockByte select
      = s.withPorts { s.ports with miso := [], transaction := some (s.ports.player.selected select) } := by
  simp [State.selectFalls, h, State.clockByte, State.shift, State.withPorts]

theorem PortInterface.withMiso_of_transaction {pi : PortInterface} {tr : Option Transaction} (h : pi.transaction = tr)
    (out : List Byte) : ({ pi with miso := out, transaction := tr } : PortInterface) = { pi with miso := out } := by
  rw [← h]

/-- A whole write transaction hands its frame on. -/
theorem State.transact_write {s : State} (h : s.ports.transaction = none) (frame : List Byte) (stray : List Bool) :
    s.transact (0x3C#8 :: frame) (some stray)
      = (s.shiftOut (List.replicate frame.length 0xFF#8)).playerFrame frame := by
  have clocked : (0x3C#8 :: frame).foldl State.clockByte s.selectFalls
      = s.withPorts
          { s.ports with
            miso := List.replicate frame.length 0xFF#8
            transaction := some (.writing frame) } := by
    rw [List.foldl_cons, State.clockByte_selects h, State.clockBytes_writing frame _ [] rfl]
    simp [State.withPorts]
  rw [State.transact, clocked]
  exact congrArg (fun pi => (s.withPorts pi).playerFrame frame) (PortInterface.withMiso_of_transaction h _)

/-- A whole transaction with another select byte is discarded. -/
theorem State.transact_ignored {s : State} (h : s.ports.transaction = none) {select : Byte} (notWrite : select ≠ 0x3C#8)
    (notRead : select ≠ 0xC3#8) (bytes : List Byte) (stray : List Bool) :
    s.transact (select :: bytes) (some stray) = s.shiftOut (List.replicate bytes.length 0xFF#8) := by
  have selected : s.ports.player.selected select = .ignored select := by simp [Port.selected, notWrite, notRead]
  have clocked : (select :: bytes).foldl State.clockByte s.selectFalls
      = s.withPorts
          { s.ports with
            miso := List.replicate bytes.length 0xFF#8
            transaction := some (.ignored select) } := by
    rw [List.foldl_cons, State.clockByte_selects h, selected, State.clockBytes_ignored bytes rfl]
    simp [State.withPorts]
  rw [State.transact, clocked]
  exact congrArg s.withPorts (PortInterface.withMiso_of_transaction h _)

theorem exec_playerWrite_of_none {s : State} (outside : s.inReset = false) (h : s.ports.transaction = none)
    (mosi : List Byte) (rise : Option (List Bool)) :
    exec (.playerWriteTransaction mosi rise) s = .next (s.transact mosi rise) := by
  have row : exec (.playerWriteTransaction mosi rise) s
      = .next (if s.inReset then s.shiftOut (idleBytes (mosi.length - 1)) else s.playerWrite mosi rise) := rfl
  rw [row, outside, State.playerWrite, h]
  rfl

/-- A whole write transaction on a Player port with chip select high. -/
theorem exec_playerWrite_frame {s : State} (outside : s.inReset = false) (h : s.ports.transaction = none)
    (frame : List Byte) (stray : List Bool) :
    exec (.playerWriteTransaction (0x3C#8 :: frame) (some stray)) s
      = .next ((s.shiftOut (List.replicate frame.length 0xFF#8)).playerFrame frame) := by
  rw [exec_playerWrite_of_none outside h, State.transact_write h]

theorem State.playerFrame_of_fits (s : State) (code : Byte) {len : Byte} {params : List Byte}
    (counted : params.length = len.toNat) (fits : len.toNat ≤ 250) :
    s.playerFrame (code :: len :: params) = s.takeFrame .player code params :=
  if_pos ⟨fits, counted⟩

/-- A frame of a listed command with parameters of another length, at a port that takes the command. -/
theorem State.takeFrame_of_badLength {s : State} {src : Source} {c : Command} {params : List Byte} (h : s.accepts src c)
    (short : c.lengthOk params = false) : s.takeFrame src c.code params = s.refuse src c.code .badLength := by
  rw [State.takeFrame_code, short, State.command_of_badLength h]

theorem Command.allowed_of_onPanels {c : Command} {src : Source} (h : c.onPanels = true) : c.allowed src = true := by
  simp [Command.allowed, h]

theorem Command.allowed_player (c : Command) : c.allowed .player = true := rfl

theorem Command.not_allowed_of {c : Command} {src : Source} (panel : src ≠ .player) (h : c.onPanels = false) :
    c.allowed src = false := by
  simp [Command.allowed, h, panel]

theorem State.playerFrame_of_wrong_size (s : State) (code : Byte) {len : Byte} {params : List Byte}
    (wrong : 250 < len.toNat ∨ params.length ≠ len.toNat) :
    s.playerFrame (code :: len :: params) = s.refuse .player code .badLength :=
  if_neg (by omega)

/-- The lengths the availability table gives (section 9.5). -/
theorem Command.lengthOk_fixed {params : List Byte} :
    ∀ x ∈ [(Command.withdraw, 2), (.hold, 2), (.release, 2), (.raise, 2), (.lower, 2), (.singerDrop, 1),
        (.clearQueue, 0), (.uncue, 0), (.takeNext, 0), (.list, 2), (.query, 2), (.history, 2), (.loadOpen, 5),
        (.loadClose, 0), (.loadAbort, 0), (.start, 5), (.pause, 0), (.resume, 0), (.stop, 0), (.sync, 3), (.key, 1),
        (.keyStep, 1), (.tempo, 1), (.skipResult, 0), (.stageReset, 0), (.status, 0), (.glyphLoad, 132),
        (.lyricStatus, 0), (.zones, 4), (.videoStatus, 0), (.events, 0), (.mask, 2), (.profileSet, 3),
        (.profileGet, 1), (.profileSave, 0)],
      x.1.lengthOk params = true ↔ params.length = x.2 := by
  simp [Command.lengthOk]

/-- A refusal at a port whose refusal place is free (R157, R163). -/
theorem State.refuse_of_free {s : State} {src : Source} (free : (s.port src).refusalPlace = none) (code : Byte)
    (why : ReplyCode) : s.refuse src code why = s.put src .refusal ⟨code, ⟨why, {}, []⟩⟩ := by
  obtain ⟨taken, -⟩ | ⟨-, h⟩ := State.refuse_cases s src code why
  · rw [free] at taken; cases taken
  · exact h

/-- Settles O18: the checks in their order, on the rows of the commands, on a panel line and in a Player write, then the
lengths of the table and what a refusal changes. -/
theorem busyAndNotHere : Obligations.BusyAndNotHere := by
  unfold Obligations.BusyAndNotHere
  refine ⟨fun i f s hi outside => ?_, fun s panel code len params outside hunting => ⟨fun long => ?_, fun counted fits free =>
      ⟨fun unlisted => ?_, ?_⟩⟩,
    fun s code len select params stray outside high => ⟨fun notWrite notRead => ?_, ?_, ?_, ?_, fun wrong => ?_,
      fun counted fits free => ⟨fun unlisted => ?_, ?_⟩⟩,
    fun params => ⟨Command.lengthOk_fixed, ?_, ?_, ?_, ?_, ?_, ?_⟩, ?_⟩
  · obtain ⟨ok, owner, row⟩ := exec_commandFrame hi s
    refine ⟨fun busy => ?_, fun free panel away => ?_⟩
    · rw [row, State.command_of_busy outside busy]
    · rw [row, State.command_of_not_allowed outside free (Command.not_allowed_of panel away)]
  · rw [exec_panelFrame_of outside, State.panelBytes_tooLong hunting code long]
  · rw [exec_panelFrame_wire outside hunting code len params fits counted,
      State.takeFrame_of_unknown (Command.ofCode_of_unlisted unlisted) free]
  · rintro c rfl onPanels short
    rw [exec_panelFrame_wire outside hunting c.code len params fits counted,
      State.takeFrame_of_badLength ⟨outside, free, Command.allowed_of_onPanels onPanels⟩ short]
  · rw [exec_playerWrite_of_none outside high, State.transact_ignored high notWrite notRead]
  · rw [exec_playerWrite_of_none outside high, State.transact, State.selectFalls, high]
    exact congrArg (fun pi => Host.Outcome.next (s.withPorts pi)) (PortInterface.withMiso_of_transaction high _)
  · exact exec_playerWrite_frame outside high [] stray
  · exact exec_playerWrite_frame outside high [code] stray
  · rw [exec_playerWrite_frame outside high, State.playerFrame_of_wrong_size _ _ wrong]
    rfl
  · rw [exec_playerWrite_frame outside high, State.playerFrame_of_fits _ _ counted fits,
      State.takeFrame_of_unknown (Command.ofCode_of_unlisted unlisted) (by exact free)]
    rfl
  · rintro c rfl short
    rw [exec_playerWrite_frame outside high, State.playerFrame_of_fits _ _ counted fits,
      State.takeFrame_of_badLength (by exact ⟨outside, free, c.allowed_player⟩) short]
    rfl
  · simp only [Command.lengthOk, decide_eq_true_eq]
    omega
  · simp [Command.lengthOk]
  · simp [Command.lengthOk, loadDataLength, and_assoc]
  · simp [Command.lengthOk, paramAt_one]
  · simp [Command.lengthOk, paramAt_one]
  · simp [Command.lengthOk, paramAt_one]
  · rintro s _ src code why rfl
    refine ⟨fun taken => ?_, fun consistent free => ?_⟩
    · rw [State.refuse, if_pos taken]
    · obtain ⟨atOnce, idle⟩ := consistent.idle_or_atOnce src
      obtain ⟨tx, port, goesOn, begins, player⟩ := Port.fill_sending atOnce idle .refusal ⟨code, ⟨why, {}, []⟩⟩
      rw [State.refuse_of_free free, State.put_eq_modifyPort, State.port_modifyPort_same, port]
      exact ⟨rfl, rfl, rfl, rfl, goesOn, begins, player, rfl, rfl, rfl, rfl, rfl,
        fun o ho => State.port_modifyPort_other _ _ _ _ ho, PortInterface.modify_transaction _ _ _,
        PortInterface.modify_miso _ _ _, State.modifyPort_withPorts _ _ _⟩

end Sys2Proof.Machine
end

section
/-! PROOFS. How replies leave the ports (chapter 9): Player reads, panel transmitters, and the REPLY-READY line. -/

namespace Sys2Proof.Machine

/-! ### Bytes of a read (R159) -/

theorem State.clockBytes_reading_short (bytes : List Byte) {pl : Place} :
    ∀ (s : State) (left : List Byte), s.ports.transaction = some (.reading pl left) → bytes.length < left.length →
      bytes.foldl State.clockByte s
        = s.withPorts
            { s.ports with
              miso := s.ports.miso ++ left.take bytes.length
              transaction := some (.reading pl (left.drop bytes.length)) } := by
  induction bytes with
  | nil =>
    intro s left h _
    rw [List.length_nil, List.take_zero, List.drop_zero, List.append_nil, ← h]
    rfl
  | cons b rest ih =>
    intro s left h short
    obtain ⟨x, y, more, rfl, byte⟩ | ⟨x, rfl, -⟩ | ⟨rfl, -⟩ := State.clockByte_reading s pl left b h
    · rw [List.foldl_cons, byte, ih _ (y :: more) rfl (Nat.lt_of_succ_lt_succ short)]
      simp [State.shift, State.withPorts]
    · simp at short
    · simp at short

/-- The last byte of a reply delivers it, and 0xFF follows. -/
theorem State.clockBytes_reading_whole (bytes : List Byte) {pl : Place} :
    ∀ (s : State) (left : List Byte), s.ports.transaction = some (.reading pl left) → left ≠ [] →
      left.length ≤ bytes.length →
      bytes.foldl State.clockByte s
        = s.withPorts
            { s.ports with
              miso := s.ports.miso ++ left ++ List.replicate (bytes.length - left.length) 0xFF#8
              transaction := some .spent
              player := s.ports.player.deliver pl } := by
  induction bytes with
  | nil =>
    intro s left _ some whole
    exact absurd (List.length_eq_zero_iff.1 (Nat.le_zero.1 whole)) some
  | cons b rest ih =>
    intro s left h some whole
    obtain ⟨x, y, more, rfl, byte⟩ | ⟨x, rfl, byte⟩ | ⟨rfl, -⟩ := State.clockByte_reading s pl left b h
    · rw [List.foldl_cons, byte, ih _ (y :: more) rfl (List.cons_ne_nil _ _) (Nat.le_of_succ_le_succ whole)]
      simp [State.shift, State.withPorts]
    · rw [List.foldl_cons, byte, State.clockBytes_spent rest rfl]
      simp [State.shift, State.withPorts, State.modifyPort, PortInterface.modify]
    · exact absurd rfl some

/-! ### The end of a transaction -/

/-- Chip select, which ends a transaction that is not a write by discarding it. -/
theorem State.selectRises_of_not_writing {s : State} (h : ∀ taken, s.ports.transaction ≠ some (.writing taken)) :
    s.selectRises = s.withPorts { s.ports with transaction := none } := by
  unfold State.selectRises
  split
  · next taken found => exact absurd found (h taken)
  · rfl

/-- A read that has come to a transaction that is not a write, with chip select as it ends. -/
theorem State.transact_of_not_writing {s t : State} {mosi : List Byte} {tr : Transaction}
    (clocked : mosi.foldl State.clockByte s.selectFalls = t) (after : t.ports.transaction = some tr)
    (notWriting : ∀ taken, tr ≠ .writing taken) (rise : Option (List Bool)) :
    s.transact mosi rise = t.withPorts { t.ports with transaction := if rise = none then some tr else none } := by
  rw [State.transact, clocked]
  cases rise with
  | none =>
    rw [if_pos rfl, ← after]
    rfl
  | some stray =>
    refine State.selectRises_of_not_writing fun taken h => notWriting taken ?_
    rw [after] at h
    exact Option.some.inj h

theorem exec_playerRead_of_none {s : State} (outside : s.inReset = false) (h : s.ports.transaction = none)
    (clocked : Nat) (rise : Option (List Bool)) :
    exec (.playerReadTransaction clocked rise) s = .next (s.transact (0xC3#8 :: idleBytes clocked) rise) := by
  have row : exec (.playerReadTransaction clocked rise) s
      = .next (if s.inReset then s.shiftOut (idleBytes clocked) else s.playerRead clocked rise) := rfl
  rw [row, outside, State.playerRead, h]
  rfl

theorem exec_playerRead_of_reading {s : State} (outside : s.inReset = false) {tr : Transaction}
    (h : s.ports.transaction = some tr) (reads : tr = .spent ∨ ∃ pl left, tr = .reading pl left)
    (clocked : Nat) (rise : Option (List Bool)) :
    exec (.playerReadTransaction clocked rise) s = .next (s.transact (idleBytes clocked) rise) := by
  have row : exec (.playerReadTransaction clocked rise) s
      = .next (if s.inReset then s.shiftOut (idleBytes clocked) else s.playerRead clocked rise) := rfl
  rw [row, outside, State.playerRead, h]
  obtain rfl | ⟨pl, left, rfl⟩ := reads <;> rfl

theorem exec_playerWrite_of_writing {s : State} (outside : s.inReset = false) {taken : List Byte}
    (h : s.ports.transaction = some (.writing taken)) (mosi : List Byte) (rise : Option (List Bool)) :
    exec (.playerWriteTransaction mosi rise) s = .next (s.transact mosi rise) := by
  have row : exec (.playerWriteTransaction mosi rise) s
      = .next (if s.inReset then s.shiftOut (idleBytes (mosi.length - 1)) else s.playerWrite mosi rise) := rfl
  rw [row, outside, State.playerWrite, h]
  rfl

theorem State.inReset_clocked (mosi : List Byte) : ∀ s : State, (mosi.foldl State.clockByte s).inReset = s.inReset := by
  induction mosi with
  | nil => exact fun s => rfl
  | cons b rest ih =>
    intro s
    obtain ⟨p, hp⟩ := s.clockByte_withPorts b
    rw [List.foldl_cons, ih, hp]
    rfl

theorem State.inReset_transact_low (s : State) (mosi : List Byte) : (s.transact mosi none).inReset = s.inReset := by
  obtain ⟨p, hp⟩ := s.selectFalls_withPorts
  refine (State.inReset_clocked mosi _).trans ?_
  rw [hp]
  rfl

/-- With chip select low the transaction goes on where the row before left it. -/
theorem State.transact_goes_on {s : State} {first : List Byte} {tr : Transaction}
    (h : (s.transact first none).ports.transaction = some tr) (more : List Byte) (rise : Option (List Bool)) :
    (s.transact first none).transact more rise = s.transact (first ++ more) rise := by
  have low : (s.transact first none).selectFalls = s.transact first none := by rw [State.selectFalls, h]
  rw [State.transact, low, State.transact, State.transact, List.foldl_append]
  rfl

/-! ### The reply a read chooses (R159) -/

theorem Reply.bytes_ne_nil (r : Reply) : r.bytes ≠ [] := by simp [Reply.bytes]

theorem Port.selected_read (p : Port) :
    p.selected 0xC3#8 = .spent
      ∨ ∃ pl r, p.first = some pl ∧ p.place pl = some r ∧ p.selected 0xC3#8 = .reading pl r.bytes := by
  unfold Port.selected Port.waiting
  cases hf : p.first with
  | none => exact .inl rfl
  | some pl =>
    cases hr : p.place pl with
    | none => left; simp [hr]
    | some r => exact .inr ⟨pl, r, rfl, hr, by simp [hr]⟩

theorem Port.selected_read_of_first {p : Port} {pl : Place} {r : Reply} (first : p.first = some pl)
    (here : p.place pl = some r) : p.selected 0xC3#8 = .reading pl r.bytes := by
  simp [Port.selected, Port.waiting, first, here]

theorem Port.selected_read_of_none {p : Port} (first : p.first = none) : p.selected 0xC3#8 = .spent := by
  simp [Port.selected, Port.waiting, first]

theorem idleBytes_length (n : Nat) : (idleBytes n).length = n := List.length_replicate

theorem State.read_nothing {s : State} (high : s.ports.transaction = none) (nothing : s.ports.player.selected 0xC3#8 = .spent)
    (n : Nat) :
    (0xC3#8 :: idleBytes n).foldl State.clockByte s.selectFalls
      = s.withPorts { s.ports with miso := List.replicate n 0xFF#8, transaction := some .spent } := by
  rw [List.foldl_cons, State.clockByte_selects high, nothing, State.clockBytes_spent _ rfl, idleBytes_length]
  rfl

theorem State.read_short {s : State} {pl : Place} {r : Reply} (high : s.ports.transaction = none)
    (chosen : s.ports.player.selected 0xC3#8 = .reading pl r.bytes) {n : Nat} (short : n < r.bytes.length) :
    (0xC3#8 :: idleBytes n).foldl State.clockByte s.selectFalls
      = s.withPorts
          { s.ports with miso := r.bytes.take n, transaction := some (.reading pl (r.bytes.drop n)) } := by
  rw [List.foldl_cons, State.clockByte_selects high, chosen,
    State.clockBytes_reading_short _ _ r.bytes rfl (by rwa [idleBytes_length]), idleBytes_length]
  rfl

theorem State.read_whole {s : State} {pl : Place} {r : Reply} (high : s.ports.transaction = none)
    (chosen : s.ports.player.selected 0xC3#8 = .reading pl r.bytes) {n : Nat} (whole : r.bytes.length ≤ n) :
    (0xC3#8 :: idleBytes n).foldl State.clockByte s.selectFalls
      = s.withPorts
          { s.ports with
            miso := r.bytes ++ List.replicate (n - r.bytes.length) 0xFF#8
            transaction := some .spent
            player := s.ports.player.deliver pl } := by
  rw [List.foldl_cons, State.clockByte_selects high, chosen,
    State.clockBytes_reading_whole _ _ r.bytes rfl r.bytes_ne_nil (by rwa [idleBytes_length]), idleBytes_length]
  rfl

/-- A read with chip select left low is still a read. -/
theorem State.read_goes_on {s : State} (high : s.ports.transaction = none) (n : Nat) :
    ∃ tr, (s.transact (0xC3#8 :: idleBytes n) none).ports.transaction = some tr
      ∧ (tr = .spent ∨ ∃ pl left, tr = .reading pl left) := by
  have low : s.transact (0xC3#8 :: idleBytes n) none = (0xC3#8 :: idleBytes n).foldl State.clockByte s.selectFalls := rfl
  rw [low]
  obtain nothing | ⟨pl, r, -, -, chosen⟩ := s.ports.player.selected_read
  · rw [State.read_nothing high nothing]
    exact ⟨_, rfl, .inl rfl⟩
  · by_cases short : n < r.bytes.length
    · rw [State.read_short high chosen short]
      exact ⟨_, rfl, .inr ⟨_, _, rfl⟩⟩
    · rw [State.read_whole high chosen (Nat.le_of_not_lt short)]
      exact ⟨_, rfl, .inl rfl⟩

/-! ### A panel's transmitter (R162) -/

/-- The check byte sent, the reply is delivered and the one in the other place begins. -/
theorem Port.send_last {p : Port} {pl : Place} {left : List Byte} (sending : p.transmitter = some ⟨pl, left⟩) {n : Nat}
    (whole : left.length ≤ n) :
    p.send n
      = { p.setPlace pl none with
          condition := if pl = .reply then .free else p.condition
          first := if p.place pl.other = none then none else some pl.other
          transmitter := (p.place pl.other).map (fun r => ⟨pl.other, panelWire r.bytes⟩)
          sent := left } := by
  have sent : p.send n = ({ p with transmitter := none, sent := left }.deliver pl).beginSending := by
    simp [Port.send, sending, whole]
  rw [sent]
  cases pl
  · cases h : p.refusalPlace <;> simp [Port.deliver, Port.beginSending, Port.setPlace, Port.place, Place.other, h]
  · cases h : p.replyPlace <;> simp [Port.deliver, Port.beginSending, Port.setPlace, Port.place, Place.other, h]

theorem exec_panelReplyDelivery_of {s : State} (outside : s.inReset = false) (panel : Panel) (n : Nat) :
    exec (.panelReplyDelivery ⟨panel, n⟩) s = .next (s.modifyPort panel.source (fun p => p.send n)) :=
  congrArg Host.Outcome.next (State.outsideReset_of outside _)

theorem State.modifyPort_of_eq (s : State) (src : Source) {f g : Port → Port} (h : f (s.port src) = g (s.port src)) :
    s.modifyPort src f = s.modifyPort src g := by
  cases src with
  | player => exact congrArg (fun p => s.withPorts { s.ports with player := p }) h
  | panel1 => exact congrArg (fun p => s.withPorts { s.ports with panel1 := p }) h
  | panel2 => exact congrArg (fun p => s.withPorts { s.ports with panel2 := p }) h
  | panel3 => exact congrArg (fun p => s.withPorts { s.ports with panel3 := p }) h

/-! ### REPLY-READY (R159) -/

theorem State.replyReady_iff (s : State) :
    s.replyReady = true ↔ s.ports.player.replyPlace ≠ none ∨ s.ports.player.refusalPlace ≠ none := by
  simp [State.replyReady, Option.isSome_iff_ne_none]

theorem State.replyReady_put (s : State) (pl : Place) (r : Reply) : (s.put .player pl r).replyReady = true := by
  rw [State.replyReady_iff]
  cases pl
  · exact .inl (by simp [State.put, State.modifyPort, PortInterface.modify, Port.fill, Port.setPlace])
  · exact .inr (by simp [State.put, State.modifyPort, PortInterface.modify, Port.fill, Port.setPlace])

theorem State.replyReady_refuse (s : State) (code : Byte) (why : ReplyCode) :
    (s.refuse .player code why).replyReady = true := by
  obtain ⟨taken, h⟩ | ⟨-, h⟩ := State.refuse_cases s .player code why
  · rw [h, State.replyReady_iff]
    exact .inr (Option.isSome_iff_ne_none.1 taken)
  · rw [h, State.replyReady_put]

/-- Settles O57: reads byte by byte, transactions cut into rows, the panel transmitters, and the two places of the Player
port. -/
theorem repliesAreDelivered : Obligations.RepliesAreDelivered := by
  unfold Obligations.RepliesAreDelivered
  refine ⟨fun s clocked rise outside high => ⟨fun nothing => ?_, fun pl r first here => ⟨fun short => ?_, fun whole => ?_⟩⟩,
    fun s t taken mosi m n rise outside high => ⟨fun run => ?_, fun run => ?_⟩,
    fun panel s outside => ⟨congrArg Host.Outcome.next (State.outsideReset_of outside _), fun idle n => ?_, ?_, ?_⟩,
    fun s c a code why => ⟨s.replyReady_iff, fun consistent => ?_, ?_, s.replyReady_refuse code why⟩, fun copy => ?_⟩
  · rw [exec_playerRead_of_none outside high, State.transact_of_not_writing
      (State.read_nothing high (Port.selected_read_of_none nothing) clocked) rfl (fun _ => (nomatch ·))]
    rfl
  · rw [exec_playerRead_of_none outside high, State.transact_of_not_writing
      (State.read_short high (Port.selected_read_of_first first here) short) rfl (fun _ => (nomatch ·))]
    rfl
  · rw [exec_playerRead_of_none outside high, State.transact_of_not_writing
      (State.read_whole high (Port.selected_read_of_first first here) whole) rfl (fun _ => (nomatch ·))]
    refine ⟨_, rfl, rfl, rfl, ?_, ?_, rfl, rfl, rfl, rfl⟩
    · rintro rfl
      cases h : s.ports.player.refusalPlace <;>
        simp [State.withPorts, Port.deliver, Port.setPlace, Port.place, Place.other, h]
    · rintro rfl
      cases h : s.ports.player.replyPlace <;>
        simp [State.withPorts, Port.deliver, Port.setPlace, Port.place, Place.other, h]
  · rw [exec_playerWrite_of_none outside high] at run
    obtain rfl := Host.Outcome.next.inj run
    have writing : (s.transact (0x3C#8 :: taken) none).ports.transaction = some (.writing taken) := by
      rw [State.transact, List.foldl_cons, State.clockByte_selects high, State.clockBytes_writing taken _ [] rfl]
      rfl
    refine ⟨writing, ?_⟩
    rw [exec_playerWrite_of_writing (by rw [s.inReset_transact_low, outside]) writing, exec_playerWrite_of_none outside high,
      State.transact_goes_on writing]
  · rw [exec_playerRead_of_none outside high] at run
    obtain rfl := Host.Outcome.next.inj run
    obtain ⟨tr, after, reads⟩ := State.read_goes_on high m
    rw [exec_playerRead_of_reading (by rw [s.inReset_transact_low, outside]) after reads, exec_playerRead_of_none outside high,
      State.transact_goes_on after, List.cons_append, idleBytes, idleBytes, ← List.replicate_add]
    rfl
  · rw [exec_panelReplyDelivery_of outside]
    exact congrArg Host.Outcome.next (State.modifyPort_id s _ _ (by simp [Port.send, idle]))
  · intro pl left n consistent sending
    refine ⟨fun fewer => ?_, fun whole => ?_⟩
    · rw [exec_panelReplyDelivery_of outside]
      exact congrArg Host.Outcome.next
        (State.modifyPort_of_eq s panel.source (by simp [Port.send, sending, Nat.not_le.2 fewer]))
    · refine ⟨_, exec_panelReplyDelivery_of outside panel n, ?_⟩
      rw [State.port_modifyPort_same, Port.send_last sending whole]
      refine ⟨by cases pl <;> rfl, by cases pl <;> rfl, rfl, fun h => if_pos h, fun h => if_neg (by simp [h]),
        fun none => ?_, fun r hr => ?_, rfl, by cases pl <;> rfl, by cases pl <;> rfl, by cases pl <;> rfl,
        by cases pl <;> rfl, fun o ho => State.port_modifyPort_other _ _ _ _ ho, PortInterface.modify_transaction _ _ _,
        PortInterface.modify_miso _ _ _, State.modifyPort_withPorts _ _ _⟩
      · simp [none]
      · simp [hr]
  · intro code check params hunting fits wrong
    have counted : (BitVec.ofNat 8 params.length).toNat = params.length := by
      rw [BitVec.toNat_ofNat]; omega
    rw [exec_panelFrame_of outside, State.panelBytes_frame hunting _ _ _ _ fits counted, if_neg wrong]
  · rw [s.replyReady_iff]
    have first : s.ports.player.first = none ↔ s.ports.player.replyPlace = none ∧ s.ports.player.refusalPlace = none :=
      (consistent.1 .player).2.1
    tauto
  · exact State.replyReady_put _ _ _
  · rfl

end Sys2Proof.Machine
end

section
/-! PROOFS. Frames as commands (chapter 9): a frame's parameters are read back, a well-formed frame does what its command
does, and what the bytes of a panel reach. -/

namespace Sys2Proof.Machine

/-! ### Parameters read back (R169) -/

theorem fitsBytes_iff {count n : Nat} : fitsBytes count n = true ↔ n < 256 ^ count := by simp [fitsBytes]

theorem beValue_be1 {n : Nat} (h : n < 256) : beValue (be1 n) = n := by
  simp [beValue, be1, Nat.mod_eq_of_lt h]

theorem beValue_be2 {n : Nat} (h : n < 65536) : beValue (be2 n) = n := by
  simp [beValue, be2]; omega

theorem beValue_be3 {n : Nat} (h : n < 16777216) : beValue (be3 n) = n := by
  simp [beValue, be3]; omega

/-- A field between two others. -/
theorem paramAt_field (front bytes back : List Byte) {place count : Nat} (hp : front.length = place)
    (hc : bytes.length = count) : paramAt (front ++ (bytes ++ back)) place count = beValue bytes := by
  subst hp hc
  simp [paramAt]

theorem paramAt_behind (front bytes : List Byte) {place : Nat} (k count : Nat) (hp : front.length = place) :
    paramAt (front ++ bytes) (place + k) count = paramAt bytes k count := by
  subst hp
  rw [paramAt, paramAt, List.drop_length_add_append]

/-- A field of a list of fields of one size. -/
theorem paramAt_flatMap {α : Type} (f : α → List Byte) {size : Nat} (hf : ∀ x, (f x).length = size) (back : List Byte) :
    ∀ (l : List α) (j : Nat) (hj : j < l.length), paramAt (l.flatMap f ++ back) (size * j) size = beValue (f l[j]) := by
  intro l
  induction l with
  | nil => exact fun j hj => absurd hj (Nat.not_lt_zero j)
  | cons x rest ih =>
    intro j hj
    cases j with
    | zero =>
      rw [List.flatMap_cons, List.append_assoc]
      exact paramAt_field [] (f x) _ rfl (hf x)
    | succ j =>
      rw [List.flatMap_cons, List.append_assoc, Nat.mul_succ, Nat.add_comm, paramAt_behind _ _ _ _ (hf x)]
      exact ih j (Nat.lt_of_succ_lt_succ hj)

theorem fitsText_iff {text : List Nat} : fitsText text = true ↔ text.length < 256 ∧ ∀ c ∈ text, c < 65536 := by
  simp [fitsText, fitsBytes]

/-- A glyph text is read back. -/
theorem textAt_field (front : List Byte) {text : List Nat} (back : List Byte) {place : Nat} (hp : front.length = place)
    (h : fitsText text = true) : textAt (front ++ (encText text ++ back)) place = text := by
  obtain ⟨short, codes⟩ := fitsText_iff.1 h
  have count : paramAt (front ++ (encText text ++ back)) place 1 = text.length := by
    rw [encText, List.append_assoc, paramAt_field front _ _ hp (Laws.be1_length _), beValue_be1 short]
  have code (j : Nat) (hj : j < text.length) :
      paramAt (front ++ (encText text ++ back)) (place + 1 + 2 * j) 2 = text[j] := by
    rw [Nat.add_assoc, paramAt_behind _ _ _ _ hp, encText, List.append_assoc, paramAt_behind _ _ _ _ (Laws.be1_length _),
      paramAt_flatMap be2 (fun _ => rfl) back text j hj, beValue_be2 (codes _ (List.getElem_mem hj))]
  rw [textAt, count]
  refine List.ext_getElem (by simp) fun j _ hj => ?_
  rw [List.getElem_map, List.getElem_range, code j hj]

theorem rosterNumberAt_field (front back : List Byte) {n : Option Nat} {place : Nat} (hp : front.length = place)
    (h : fitsRoster n = true) : rosterNumberAt (front ++ (encRoster n ++ back)) place = n := by
  have value : paramAt (front ++ (encRoster n ++ back)) place 1 = n.getD 0 := by
    refine (paramAt_field front (encRoster n) back hp rfl).trans (beValue_be1 ?_)
    cases n with
    | none => decide
    | some k => simpa [fitsRoster, fitsBytes] using (by simpa [fitsRoster, fitsBytes] using h : 0 < k ∧ k < 256).2
  rw [rosterNumberAt, value]
  cases n with
  | none => rfl
  | some k =>
    have positive : k ≠ 0 := by
      have : 0 < k ∧ k < 256 := by simpa [fitsRoster, fitsBytes] using h
      omega
    exact if_neg positive

theorem signedAt_field (front back : List Byte) {k : Int} {place : Nat} (hp : front.length = place)
    (h : fitsSignedByte k = true) : signedAt (front ++ (encSigned k ++ back)) place = k := by
  have fits : -128 ≤ k ∧ k ≤ 127 := by simpa [fitsSignedByte] using h
  have value : paramAt (front ++ (encSigned k ++ back)) place 1 = (BitVec.ofInt 8 k).toNat := by
    refine (paramAt_field front (encSigned k) back hp rfl).trans ?_
    simp [beValue, encSigned]
  rw [signedAt, value, BitVec.ofNat_toNat, BitVec.setWidth_eq, BitVec.toInt_ofInt]
  exact Int.bmod_eq_of_le (by omega) (by omega)

theorem profileValueAt_field (front back : List Byte) {v : Int} {place : Nat} (hp : front.length = place)
    (low : -32768 ≤ v) (high : v ≤ 32767) : profileValueAt (front ++ (encProfileValue v ++ back)) place = v := by
  have value : paramAt (front ++ (encProfileValue v ++ back)) place 2 = (BitVec.ofInt 16 v).toNat :=
    (paramAt_field front (encProfileValue v) back hp rfl).trans (beValue_be2 (BitVec.ofInt 16 v).isLt)
  rw [profileValueAt, value, BitVec.ofNat_toNat, BitVec.setWidth_eq, BitVec.toInt_ofInt]
  exact Int.bmod_eq_of_le (by omega) (by omega)

theorem beValue_rowBytes (r : MaskRow) : beValue (rowBytes r) = r.toNat := by
  have := r.isLt
  simp [beValue, rowBytes, be2]; omega

theorem AddParams.wellFormed_iff {p : AddParams} :
    p.wellFormed = true ↔ fitsBytes 3 p.song = true ∧ fitsText p.title = true ∧ 10 + 2 * p.title.length ≤ 250
      ∧ fitsRoster p.singer = true ∧ fitsRoster p.partner = true ∧ fitsBytes 1 p.duet = true
      ∧ fitsSignedByte p.startKey = true ∧ fitsBytes 1 p.tempo = true ∧ fitsBytes 1 p.wantsPriority = true := by
  simp [AddParams.wellFormed, and_assoc]

theorem addBytes_cut (p : AddParams) :
    addBytes p = be3 p.song ++ encText p.title ++ encRoster p.singer ++ (encRoster p.partner ++ (be1 p.duet
      ++ (encSigned p.startKey ++ (be1 p.tempo ++ be1 p.wantsPriority)))) := by
  simp only [addBytes, List.append_assoc]

/-- ADD's parameters are read back. -/
theorem addParamsOf_addBytes {p : AddParams} (h : p.wellFormed = true) : addParamsOf (addBytes p) = p := by
  obtain ⟨song, title, -, singer, partner, duet, startKey, tempo, wants⟩ := AddParams.wellFormed_iff.1 h
  rw [fitsBytes_iff] at song duet tempo wants
  have titleCount : paramAt (addBytes p) 3 1 = p.title.length := by
    rw [addBytes_cut, List.append_assoc, List.append_assoc]
    exact Laws.paramAt_encText (be3 p.song) _ p.title (fitsText_iff.1 title).1
  have head : (be3 p.song ++ encText p.title).length = 4 + 2 * p.title.length := by
    rw [List.length_append, Laws.encText_length, Laws.be3_length]; omega
  have songAt : paramAt (addBytes p) 0 3 = p.song := by
    rw [addBytes_cut, List.append_assoc, List.append_assoc]
    exact (paramAt_field [] (be3 p.song) _ rfl rfl).trans (beValue_be3 song)
  have titleAt : textAt (addBytes p) 3 = p.title := by
    rw [addBytes_cut, List.append_assoc, List.append_assoc]
    exact textAt_field (be3 p.song) _ rfl title
  have singerAt : rosterNumberAt (addBytes p) (4 + 2 * p.title.length) = p.singer := by
    rw [addBytes_cut, List.append_assoc]
    exact rosterNumberAt_field _ _ head singer
  have partnerAt : rosterNumberAt (addBytes p) (4 + 2 * p.title.length + 1) = p.partner := by
    rw [addBytes_cut]
    exact rosterNumberAt_field _ _ (by rw [List.length_append, head, Laws.encRoster_length]) partner
  have tail (k count : Nat) : paramAt (addBytes p) (4 + 2 * p.title.length + (2 + k)) count
      = paramAt (be1 p.duet ++ (encSigned p.startKey ++ (be1 p.tempo ++ be1 p.wantsPriority))) k count := by
    have cut : addBytes p = (be3 p.song ++ encText p.title ++ encRoster p.singer ++ encRoster p.partner)
        ++ (be1 p.duet ++ (encSigned p.startKey ++ (be1 p.tempo ++ be1 p.wantsPriority))) := by
      rw [addBytes_cut, List.append_assoc _ (encRoster p.partner)]
    rw [cut, ← Nat.add_assoc]
    exact paramAt_behind _ _ k count (by
      rw [List.length_append, List.length_append, head, Laws.encRoster_length, Laws.encRoster_length])
  have duetAt : paramAt (addBytes p) (4 + 2 * p.title.length + 2) 1 = p.duet :=
    (tail 0 1).trans ((paramAt_field [] (be1 p.duet) _ rfl rfl).trans (beValue_be1 duet))
  have startKeyAt : signedAt (addBytes p) (4 + 2 * p.title.length + 3) = p.startKey := by
    rw [signedAt, tail 1 1]
    exact signedAt_field (be1 p.duet) _ rfl startKey
  have tempoAt : paramAt (addBytes p) (4 + 2 * p.title.length + 4) 1 = p.tempo :=
    (tail 2 1).trans
      ((paramAt_field (be1 p.duet ++ encSigned p.startKey) (be1 p.tempo) _ rfl rfl).trans (beValue_be1 tempo))
  have wantsAt : paramAt (addBytes p) (4 + 2 * p.title.length + 5) 1 = p.wantsPriority :=
    (tail 3 1).trans
      ((paramAt_field (be1 p.duet ++ encSigned p.startKey ++ be1 p.tempo) (be1 p.wantsPriority) [] rfl rfl).trans
        (beValue_be1 wants))
  simp only [addParamsOf, titleCount, songAt, titleAt, singerAt, partnerAt, duetAt, startKeyAt, tempoAt, wantsAt]

/-- GLYPH-LOAD's parameters are read back. -/
theorem glyphParamsOf_glyphBytes {p : GlyphParams} (h : p.wellFormed = true) : glyphParamsOf (glyphBytes p) = p := by
  obtain ⟨⟨⟨code, advance⟩, maskWidth⟩, height⟩ :
      ((fitsBytes 2 p.code = true ∧ fitsBytes 1 p.advance = true) ∧ fitsBytes 1 p.maskWidth = true)
        ∧ p.rows.length = 32 := by
    simpa [GlyphParams.wellFormed] using h
  rw [fitsBytes_iff] at code advance maskWidth
  have cut : glyphBytes p = be2 p.code ++ (be1 p.advance ++ (be1 p.maskWidth ++ (p.rows.flatMap rowBytes ++ []))) := by
    simp [glyphBytes]
  have codeAt : paramAt (glyphBytes p) 0 2 = p.code := by
    rw [cut]
    exact (paramAt_field [] (be2 p.code) _ rfl rfl).trans (beValue_be2 code)
  have advanceAt : paramAt (glyphBytes p) 2 1 = p.advance := by
    rw [cut]
    exact (paramAt_field (be2 p.code) (be1 p.advance) _ rfl rfl).trans (beValue_be1 advance)
  have maskWidthAt : paramAt (glyphBytes p) 3 1 = p.maskWidth := by
    rw [cut]
    exact (paramAt_field (be2 p.code ++ be1 p.advance) (be1 p.maskWidth) _ rfl rfl).trans (beValue_be1 maskWidth)
  have rowAt (j : Nat) (hj : j < p.rows.length) : paramAt (glyphBytes p) (4 + 4 * j) 4 = p.rows[j].toNat := by
    rw [cut]
    exact (paramAt_behind (be2 p.code ++ be1 p.advance ++ be1 p.maskWidth) _ (4 * j) 4 rfl).trans
      ((paramAt_flatMap rowBytes (fun _ => rfl) [] p.rows j hj).trans (beValue_rowBytes _))
  have rowsAt : (List.range 32).map (fun j => BitVec.ofNat 32 (paramAt (glyphBytes p) (4 + 4 * j) 4)) = p.rows := by
    refine List.ext_getElem (by simp [height]) fun j _ hj => ?_
    rw [List.getElem_map, List.getElem_range, rowAt j hj, BitVec.ofNat_toNat, BitVec.setWidth_eq]
  simp only [glyphParamsOf, codeAt, advanceAt, maskWidthAt, rowsAt]

/-! ### A frame is its command (R163, R168) -/

theorem paramAt_be1 {n : Nat} (h : fitsBytes 1 n = true) (back : List Byte) : paramAt (be1 n ++ back) 0 1 = n :=
  (paramAt_field [] (be1 n) back rfl rfl).trans (beValue_be1 (fitsBytes_iff.1 h))

theorem paramAt_be2 {n : Nat} (h : fitsBytes 2 n = true) (back : List Byte) : paramAt (be2 n ++ back) 0 2 = n :=
  (paramAt_field [] (be2 n) back rfl rfl).trans (beValue_be2 (fitsBytes_iff.1 h))

theorem paramAt_be3 {n : Nat} (h : fitsBytes 3 n = true) (back : List Byte) : paramAt (be3 n ++ back) 0 3 = n :=
  (paramAt_field [] (be3 n) back rfl rfl).trans (beValue_be3 (fitsBytes_iff.1 h))

/-- A one-byte number behind other fields. -/
theorem paramAt_second (front back : List Byte) {n place : Nat} (hp : front.length = place) (h : fitsBytes 1 n = true) :
    paramAt (front ++ (be1 n ++ back)) place 1 = n :=
  (paramAt_field front (be1 n) back hp rfl).trans (beValue_be1 (fitsBytes_iff.1 h))

theorem textAt_whole {text : List Nat} (h : fitsText text = true) : textAt (encText text) 0 = text := by
  simpa using textAt_field [] [] rfl h

/-! The owners of the commands with several parameters, on the parameters of a frame. -/

theorem Command.owner_list (src : Source) {p n : Nat} (hp : fitsBytes 1 p = true) (hn : fitsBytes 1 n = true) :
    Command.owner src (be1 p ++ be1 n) .list = State.qmList src p n := by
  have second : paramAt (be1 p ++ be1 n) 1 1 = n := paramAt_second (be1 p) [] rfl hn
  rw [Command.owner, paramAt_be1 hp, second]

theorem Command.owner_history (src : Source) {p n : Nat} (hp : fitsBytes 1 p = true) (hn : fitsBytes 1 n = true) :
    Command.owner src (be1 p ++ be1 n) .history = State.qmHistory src p n := by
  have second : paramAt (be1 p ++ be1 n) 1 1 = n := paramAt_second (be1 p) [] rfl hn
  rw [Command.owner, paramAt_be1 hp, second]

theorem Command.owner_loadOpen (src : Source) {t n o : Nat} (ht : fitsBytes 2 t = true) (hn : fitsBytes 2 n = true)
    (ho : fitsBytes 1 o = true) :
    Command.owner src (be2 t ++ be2 n ++ be1 o) .loadOpen = State.slLoadOpen src t n o := by
  have count : paramAt (be2 t ++ (be2 n ++ be1 o)) 2 2 = n :=
    (paramAt_field (be2 t) (be2 n) (be1 o) rfl rfl).trans (beValue_be2 (fitsBytes_iff.1 hn))
  have order : paramAt (be2 t ++ be2 n ++ be1 o) 4 1 = o := paramAt_second (be2 t ++ be2 n) [] rfl ho
  rw [Command.owner, order, List.append_assoc, paramAt_be2 ht, count]

theorem Command.owner_start (src : Source) {t o : Nat} (ht : fitsBytes 2 t = true) (ho : fitsBytes 3 o = true) :
    Command.owner src (be2 t ++ be3 o) .start = State.scStart src t o := by
  have offset : paramAt (be2 t ++ be3 o) 2 3 = o :=
    (paramAt_field (be2 t) (be3 o) [] rfl rfl).trans (beValue_be3 (fitsBytes_iff.1 ho))
  rw [Command.owner, paramAt_be2 ht, offset]

theorem Command.owner_zones (src : Source) {ht hl hm : Nat} (ticker : fitsBytes 1 ht = true) (lyric : fitsBytes 2 hl = true)
    (meter : fitsBytes 1 hm = true) :
    Command.owner src (be1 ht ++ be2 hl ++ be1 hm) .zones = State.vcZones src ht hl hm := by
  have second : paramAt (be1 ht ++ (be2 hl ++ be1 hm)) 1 2 = hl :=
    (paramAt_field (be1 ht) (be2 hl) (be1 hm) rfl rfl).trans (beValue_be2 (fitsBytes_iff.1 lyric))
  have third : paramAt (be1 ht ++ be2 hl ++ be1 hm) 3 1 = hm := paramAt_second (be1 ht ++ be2 hl) [] rfl meter
  rw [Command.owner, third, List.append_assoc, paramAt_be1 ticker, second]

theorem Command.owner_rights (src : Source) {port : Nat} (h : fitsBytes 1 port = true) (mask : Option Byte) :
    Command.owner src (be1 port ++ mask.toList) .rights = State.piRights src port mask := by
  have second : (be1 port ++ mask.toList)[1]? = mask := by cases mask <;> rfl
  rw [Command.owner, paramAt_be1 h, second]

theorem Command.owner_profileSet (src : Source) {n : Nat} {v : Int} (h : fitsBytes 1 n = true) (low : -32768 ≤ v)
    (high : v ≤ 32767) : Command.owner src (be1 n ++ encProfileValue v) .profileSet = State.psSet src n v := by
  have value : profileValueAt (be1 n ++ encProfileValue v) 1 = v := profileValueAt_field (be1 n) [] rfl low high
  rw [Command.owner, paramAt_be1 h, value]

/-- The row of a well-formed command is its owner's work on the parameters of its frame. -/
theorem exec_frame {i : Instr} {f : CommandFrame} (fits : i.wellFormed = true) (hi : commandFrame i = some f) (s : State) :
    exec i s = .next (s.command f.source f.command true (f.command.owner f.source f.params)) := by
  have row {α : Type} {src : Source} (c : Command) (owner : α → State → State) {read x : α} (h : read = x) :
      Host.Outcome.next (s.command src c true (owner x)) = (.next (s.command src c true (owner read)) : Result) := by
    rw [h]
  have owned {src : Source} (c : Command) {owner frame : State → State} (h : frame = owner) :
      Host.Outcome.next (s.command src c true owner) = (.next (s.command src c true frame) : Result) := by
    rw [h]
  cases i with
  | add src p =>
    cases hi
    exact row .add (State.qmAdd src) (addParamsOf_addBytes fits)
  | withdraw src t =>
    cases hi
    exact row .withdraw (fun t => State.qmEdit src (.withdraw t)) (paramAt_be2 fits [])
  | hold src t =>
    cases hi
    exact row .hold (fun t => State.qmEdit src (.hold t)) (paramAt_be2 fits [])
  | release src t =>
    cases hi
    exact row .release (fun t => State.qmEdit src (.release t)) (paramAt_be2 fits [])
  | raise src t =>
    cases hi
    exact row .raise (fun t => State.qmEdit src (.raise t)) (paramAt_be2 fits [])
  | lower src t =>
    cases hi
    exact row .lower (fun t => State.qmEdit src (.lower t)) (paramAt_be2 fits [])
  | singerAdd src name =>
    cases hi
    exact row .singerAdd (State.qmSingerAdd src) (textAt_whole (Bool.and_eq_true_iff.1 fits).1)
  | singerDrop src n =>
    cases hi
    exact row .singerDrop (fun n => State.qmEdit src (.singerDrop n)) (paramAt_be1 fits [])
  | list src p n =>
    cases hi
    obtain ⟨hp, hn⟩ := Bool.and_eq_true_iff.1 fits
    exact owned .list (Command.owner_list src hp hn)
  | query src t =>
    cases hi
    exact row .query (State.qmQuery src) (paramAt_be2 fits [])
  | history src p n =>
    cases hi
    obtain ⟨hp, hn⟩ := Bool.and_eq_true_iff.1 fits
    exact owned .history (Command.owner_history src hp hn)
  | roster src first =>
    cases hi
    cases first with
    | none => rfl
    | some n => exact row .roster (fun n => State.qmRoster src (some n)) (paramAt_be1 fits [])
  | loadOpen src t n o =>
    cases hi
    obtain ⟨front, ho⟩ := Bool.and_eq_true_iff.1 fits
    obtain ⟨ht, hn⟩ := Bool.and_eq_true_iff.1 front
    exact owned .loadOpen (Command.owner_loadOpen src ht hn ho)
  | loadData src bytes =>
    cases hi
    exact congrArg (fun ok => Host.Outcome.next (s.command src .loadData ok (State.slLoadData src bytes))) fits
  | start src t o =>
    cases hi
    obtain ⟨ht, ho⟩ := Bool.and_eq_true_iff.1 fits
    exact owned .start (Command.owner_start src ht ho)
  | sync src t =>
    cases hi
    exact row .sync (State.scSync src) (paramAt_be3 fits [])
  | key src k =>
    cases hi
    exact row .key (State.setKey src .key) (signedAt_field [] [] rfl fits)
  | keyStep src d =>
    cases hi
    exact row .keyStep (State.scKeyStep src) (signedAt_field [] [] rfl fits)
  | tempo src p =>
    cases hi
    exact row .tempo (State.scTempo src) (paramAt_be1 fits [])
  | glyphLoad src p =>
    cases hi
    exact row .glyphLoad (State.lrGlyphLoad src) (glyphParamsOf_glyphBytes fits)
  | idleText src text =>
    cases hi
    exact row .idleText (State.tuIdleText src) (textAt_whole (Bool.and_eq_true_iff.1 fits).1)
  | zones src ht hl hm =>
    cases hi
    obtain ⟨front, meter⟩ := Bool.and_eq_true_iff.1 fits
    obtain ⟨ticker, lyric⟩ := Bool.and_eq_true_iff.1 front
    exact owned .zones (Command.owner_zones src ticker lyric meter)
  | rights src port mask =>
    cases hi
    exact owned .rights (Command.owner_rights src fits mask)
  | mask src m =>
    cases hi
    refine row .mask (State.piMask src) ?_
    rw [show paramAt (be2 m.toNat) 0 2 = m.toNat from paramAt_be2 (fitsBytes_iff.2 m.isLt) [], BitVec.ofNat_toNat,
      BitVec.setWidth_eq]
  | profileSet src field v =>
    cases hi
    obtain ⟨front, high⟩ := Bool.and_eq_true_iff.1 fits
    obtain ⟨number, low⟩ := Bool.and_eq_true_iff.1 front
    exact owned .profileSet
      (Command.owner_profileSet src number (of_decide_eq_true low) (of_decide_eq_true high))
  | profileGet src field =>
    cases hi
    exact row .profileGet (State.psGet src) (paramAt_be1 fits [])
  | _ => cases hi <;> rfl

/-- A well-formed frame has a length the table takes, and one byte holds it. -/
theorem frame_fits {i : Instr} {f : CommandFrame} (fits : i.wellFormed = true) (hi : commandFrame i = some f) :
    f.command.lengthOk f.params = true ∧ f.params.length ≤ 250 := by
  cases i with
  | add src p => exact Laws.OperandsFit.add src p fits f hi
  | withdraw src t => exact Laws.OperandsFit.withdraw src t fits f hi
  | hold src t => exact Laws.OperandsFit.hold src t fits f hi
  | release src t => exact Laws.OperandsFit.release src t fits f hi
  | raise src t => exact Laws.OperandsFit.raise src t fits f hi
  | lower src t => exact Laws.OperandsFit.lower src t fits f hi
  | singerAdd src name => exact Laws.OperandsFit.singerAdd src name fits f hi
  | singerDrop src n => exact Laws.OperandsFit.singerDrop src n fits f hi
  | clearQueue src => exact Laws.OperandsFit.clearQueue src fits f hi
  | uncue src => exact Laws.OperandsFit.uncue src fits f hi
  | takeNext src => exact Laws.OperandsFit.takeNext src fits f hi
  | list src p c => exact Laws.OperandsFit.list src p c fits f hi
  | query src t => exact Laws.OperandsFit.query src t fits f hi
  | history src st c => exact Laws.OperandsFit.history src st c fits f hi
  | roster src first => exact Laws.OperandsFit.roster src first fits f hi
  | loadOpen src t c o => exact Laws.OperandsFit.loadOpen src t c o fits f hi
  | loadData src bytes => exact Laws.OperandsFit.loadData src bytes fits f hi
  | loadClose src => exact Laws.OperandsFit.loadClose src fits f hi
  | loadAbort src => exact Laws.OperandsFit.loadAbort src fits f hi
  | start src t o => exact Laws.OperandsFit.start src t o fits f hi
  | pause src => exact Laws.OperandsFit.pause src fits f hi
  | resume src => exact Laws.OperandsFit.resume src fits f hi
  | stop src => exact Laws.OperandsFit.stop src fits f hi
  | sync src t => exact Laws.OperandsFit.sync src t fits f hi
  | key src k => exact Laws.OperandsFit.key src k fits f hi
  | keyStep src d => exact Laws.OperandsFit.keyStep src d fits f hi
  | tempo src p => exact Laws.OperandsFit.tempo src p fits f hi
  | skipResult src => exact Laws.OperandsFit.skipResult src fits f hi
  | stageReset src => exact Laws.OperandsFit.stageReset src fits f hi
  | status src => exact Laws.OperandsFit.status src fits f hi
  | glyphLoad src p => exact Laws.OperandsFit.glyphLoad src p fits f hi
  | lyricStatus src => exact Laws.OperandsFit.lyricStatus src fits f hi
  | idleText src text => exact Laws.OperandsFit.idleText src text fits f hi
  | zones src ht hl hm => exact Laws.OperandsFit.zones src ht hl hm fits f hi
  | videoStatus src => exact Laws.OperandsFit.videoStatus src fits f hi
  | rights src port mask => exact Laws.OperandsFit.rights src port mask fits f hi
  | events src => exact Laws.OperandsFit.events src fits f hi
  | mask src m => exact Laws.OperandsFit.mask src m fits f hi
  | profileSet src field v => exact Laws.OperandsFit.profileSet src field v fits f hi
  | profileGet src field => exact Laws.OperandsFit.profileGet src field fits f hi
  | profileSave src => exact Laws.OperandsFit.profileSave src fits f hi
  | _ => cases hi

/-- A well-formed command's frame, taken at its port, does what its row does. -/
theorem takeFrame_frame {i : Instr} {f : CommandFrame} (fits : i.wellFormed = true) (hi : commandFrame i = some f)
    (s : State) : exec i s = .next (s.takeFrame f.source f.command.code f.params) := by
  rw [exec_frame fits hi, State.takeFrame_code, (frame_fits fits hi).1]

theorem toNat_lengthByte {params : List Byte} (h : params.length ≤ 250) :
    (BitVec.ofNat 8 params.length).toNat = params.length := by
  rw [BitVec.toNat_ofNat]; omega

/-- Settles O15: in reset both sides shift out 0xFF, and outside it the transaction takes the command's frame. -/
theorem playerFrameIsItsCommand : Obligations.PlayerFrameIsItsCommand := by
  unfold Obligations.PlayerFrameIsItsCommand
  intro i f stray s fits hi player high
  have short := (frame_fits fits hi).2
  refine ⟨_, takeFrame_frame fits hi _, ?_⟩
  cases outside : s.inReset with
  | true =>
    have still (u : State) (h : u.inReset = true) : u.takeFrame f.source f.command.code f.params = u := by
      rw [State.takeFrame_code, State.command_of_inReset h]
    rw [still (s.shiftOut (List.replicate f.bytes.length 0xFF#8)) (by exact outside)]
    exact congrArg Host.Outcome.next (if_pos outside)
  | false =>
    rw [exec_playerWrite_frame outside high, CommandFrame.bytes,
      State.playerFrame_of_fits _ _ (toNat_lengthByte short).symm (by rw [toNat_lengthByte short]; exact short), player]

/-- Settles O16: a line that is HUNTING takes the command's frame. -/
theorem panelFrameIsItsCommand : Obligations.PanelFrameIsItsCommand := by
  unfold Obligations.PanelFrameIsItsCommand
  intro i f panel s fits hi source hunting
  have short := (frame_fits fits hi).2
  refine ⟨_, takeFrame_frame fits hi s, ?_⟩
  cases outside : s.inReset with
  | true =>
    have still : s.takeFrame f.source f.command.code f.params = s := by
      rw [State.takeFrame_code, State.command_of_inReset outside]
    rw [still]
    exact congrArg Host.Outcome.next (State.outsideReset_of_inReset outside _)
  | false =>
    rw [CommandFrame.bytes, exec_panelFrame_wire outside hunting _ _ _ short (toNat_lengthByte short), source]

/-! ### What a panel reaches (sections 9.5 and 9.6) -/

/-- What the bytes of a panel may change: its own port but not its rights, the QM's waiting work, the key where the panel
holds the KEY right, and the event sets of the other ports. -/
structure PanelReach (panel : Panel) (s t : State) : Prop where
  applied : t.qm.sameApplied s.qm
  blocks : t.sl = s.sl ∧ t.pt = s.pt ∧ t.su = s.su ∧ t.lr = s.lr ∧ t.tu = s.tu ∧ t.mu = s.mu ∧ t.vc = s.vc ∧ t.ps = s.ps
    ∧ t.inReset = s.inReset
  line : t.ports.transaction = s.ports.transaction ∧ t.ports.miso = s.ports.miso
  onlyKey : { t.sc with key := s.sc.key } = s.sc
  keyRight : rightsHold (s.port panel.source).rights .key = false → t.sc = s.sc
  rights : (t.port panel.source).rights = (s.port panel.source).rights
  others : ∀ src, src ≠ panel.source → { t.port src with events := (s.port src).events } = s.port src

namespace PanelReach

variable {panel : Panel} {s t u : State}

theorem refl (panel : Panel) (s : State) : PanelReach panel s s :=
  ⟨.refl _, ⟨rfl, rfl, rfl, rfl, rfl, rfl, rfl, rfl, rfl⟩, ⟨rfl, rfl⟩, rfl, fun _ => rfl, rfl, fun _ _ => rfl⟩

theorem trans (h : PanelReach panel s t) (k : PanelReach panel t u) : PanelReach panel s u where
  applied := k.applied.trans h.applied
  blocks := by
    obtain ⟨sl, pt, su, lr, tu, mu, vc, ps, reset⟩ := h.blocks
    obtain ⟨sl', pt', su', lr', tu', mu', vc', ps', reset'⟩ := k.blocks
    exact ⟨sl'.trans sl, pt'.trans pt, su'.trans su, lr'.trans lr, tu'.trans tu, mu'.trans mu, vc'.trans vc,
      ps'.trans ps, reset'.trans reset⟩
  line := ⟨k.line.1.trans h.line.1, k.line.2.trans h.line.2⟩
  onlyKey := by
    have first := h.onlyKey
    have second := k.onlyKey
    rw [← second] at first
    exact first
  keyRight := fun none => (k.keyRight (h.rights ▸ none)).trans (h.keyRight none)
  rights := k.rights.trans h.rights
  others := fun src other => by
    have first := h.others src other
    have second := k.others src other
    rw [← second] at first
    exact first

/-- A change of the panel's own port that leaves its rights. -/
theorem modifyPort {f : Port → Port} (rights : (f (s.port panel.source)).rights = (s.port panel.source).rights) :
    PanelReach panel s (s.modifyPort panel.source f) where
  applied := .refl _
  blocks := ⟨rfl, rfl, rfl, rfl, rfl, rfl, rfl, rfl, rfl⟩
  line := ⟨PortInterface.modify_transaction _ _ _, PortInterface.modify_miso _ _ _⟩
  onlyKey := rfl
  keyRight := fun _ => rfl
  rights := by rw [State.port_modifyPort_same, rights]
  others := fun src other => by rw [State.port_modifyPort_other _ _ _ _ other]

theorem put (s : State) (pl : Place) (r : Reply) : PanelReach panel s (s.put panel.source pl r) := by
  rw [State.put_eq_modifyPort]
  refine modifyPort ?_
  rw [if_neg (panel_source_ne_player panel)]
  unfold Port.beginSending
  split
  · split <;> cases pl <;> rfl
  · cases pl <;> rfl

theorem answer (s : State) (c : Command) (a : Answer) : PanelReach panel s (s.answer panel.source c a) :=
  (modifyPort (s := s) (f := fun p => { p with condition := .answered }) rfl).trans (put _ _ _)

theorem refuse (s : State) (code : Byte) (why : ReplyCode) : PanelReach panel s (s.refuse panel.source code why) := by
  obtain ⟨-, h⟩ | ⟨-, h⟩ := State.refuse_cases s panel.source code why
  · rw [h]; exact refl panel s
  · rw [h]; exact put s _ _

theorem arrive (s : State) (op : Operation) : PanelReach panel s (s.arrive op) where
  applied := s.arrive_sameApplied op
  blocks := by simp
  line := by simp
  onlyKey := by simp
  keyRight := by simp
  rights := by simp [State.port]
  others := by simp [State.port]

theorem raiseAll (s : State) (e : Event) : PanelReach panel s (s.raiseAll e) where
  applied := .refl _
  blocks := ⟨rfl, rfl, rfl, rfl, rfl, rfl, rfl, rfl, rfl⟩
  line := ⟨rfl, rfl⟩
  onlyKey := rfl
  keyRight := fun _ => rfl
  rights := by rw [State.port_raiseAll]; rfl
  others := fun src _ => by rw [State.port_raiseAll]; rfl

theorem stageChangedIf (s : State) (b : Bool) : PanelReach panel s (s.stageChangedIf b) := by
  unfold State.stageChangedIf
  split
  · exact raiseAll s _
  · exact refl panel s

theorem key (s : State) (k : Int) (right : rightsHold (s.port panel.source).rights .key = true) :
    PanelReach panel s (s.withSc { s.sc with key := k }) where
  applied := .refl _
  blocks := ⟨rfl, rfl, rfl, rfl, rfl, rfl, rfl, rfl, rfl⟩
  line := ⟨rfl, rfl⟩
  onlyKey := rfl
  keyRight := fun none => by rw [right] at none; cases none
  rights := rfl
  others := fun _ _ => rfl

end PanelReach

theorem State.rightsOf_panel (s : State) (panel : Panel) : s.rightsOf panel.source = (s.port panel.source).rights :=
  if_neg (panel_source_ne_player panel)

/-- The work of a command the table allows on panels. -/
theorem Work.panelReach {panel : Panel} {c : Command} {s t : State} (h : Work panel.source c s t)
    (onPanels : c.onPanels = true) : PanelReach panel s t := by
  cases h with
  | answered => exact .answer ..
  | edit => exact .arrive ..
  | key _ _ k moved a right song =>
    rw [State.rightsOf_panel] at right
    exact ((PanelReach.key s _ right).trans (.stageChangedIf _ _)).trans (.answer ..)
  | events => exact (PanelReach.modifyPort rfl).trans (.answer ..)
  | mask => exact (PanelReach.modifyPort rfl).trans (.answer ..)
  | _ => cases onPanels

theorem Handled.panelReach {panel : Panel} {s t : State} (h : Handled panel.source s t) : PanelReach panel s t := by
  cases h with
  | nothing => exact .refl ..
  | refused code why => exact .refuse ..
  | routed c t taken work =>
    have onPanels : c.onPanels = true := by
      have allowed := taken.2.2
      simpa [Command.allowed, panel_source_ne_player] using allowed
    exact (PanelReach.modifyPort rfl).trans (work.panelReach onPanels)

theorem State.panelByte_panelReach (panel : Panel) (s : State) (b : Byte) :
    PanelReach panel s (s.panelByte panel.source b) := by
  obtain ⟨u, rfl | ⟨r, rfl⟩, h⟩ := State.panelByte_handled panel.source s b
  · exact h.panelReach
  · exact (PanelReach.modifyPort rfl).trans h.panelReach

theorem State.panelBytes_panelReach (panel : Panel) (bytes : List Byte) :
    ∀ s : State, PanelReach panel s (bytes.foldl (State.panelByte panel.source) s) := by
  induction bytes with
  | nil => exact fun s => .refl panel s
  | cons b rest ih => exact fun s => (s.panelByte_panelReach panel b).trans (ih _)

/-- Settles O14: byte by byte. -/
theorem panelsReachOnlyTheirOwn : Obligations.PanelsReachOnlyTheirOwn := by
  unfold Obligations.PanelsReachOnlyTheirOwn
  intro panel bytes s t run
  have row : exec (.panelFrame panel bytes) s
      = .next (s.outsideReset (fun u => bytes.foldl (State.panelByte panel.source) u)) := rfl
  rw [row] at run
  obtain rfl := Host.Outcome.next.inj run
  have reach : PanelReach panel s (s.outsideReset (fun u => bytes.foldl (State.panelByte panel.source) u)) := by
    unfold State.outsideReset
    split
    · exact .refl panel s
    · exact s.panelBytes_panelReach panel bytes
  obtain ⟨applied, ⟨sl, pt, su, lr, tu, mu, vc, ps, reset⟩, ⟨transaction, miso⟩, onlyKey, keyRight, rights, others⟩ := reach
  exact ⟨applied, sl, pt, su, lr, tu, mu, vc, ps, reset, transaction, miso, onlyKey, keyRight, rights, others⟩

end Sys2Proof.Machine
end

section
/-! PROOFS. The status reads, the glyph table and the ticker (chapters 4, 6, 7 and 8), written out. -/

namespace Sys2Proof.Machine

/-! ### The interlude hold (R123) -/

theorem Song.mem_interludes {g : Song} {m : Nat} : m ∈ g.interludes ↔ CueRecord.mark .interlude m ∈ g.records := by
  rw [Song.interludes, List.mem_filterMap]
  refine ⟨fun ⟨r, hr, h⟩ => ?_, fun h => ⟨_, h, rfl⟩⟩
  split at h
  · next t =>
    obtain rfl := Option.some.inj h
    exact hr
  · cases h

theorem LyricInputs.holds_iff {i : LyricInputs} {past : List Nat}
    (h : ∀ m, m ∈ past ↔ CueRecord.mark .interlude m ∈ i.song.records ∧ m ≤ i.time) :
    i.holds = true ↔ ∃ m ∈ past, (∀ n ∈ past, n ≤ m)
      ∧ ∀ e, i.song.index.lines.find? (fun e => decide (m ≤ e.start)) = some e → i.time + i.lead < e.start := by
  have past_iff (m : Nat) : m ∈ i.song.interludes.filter (fun m => m ≤ i.time) ↔ m ∈ past := by
    rw [h, List.mem_filter, Song.mem_interludes, decide_eq_true_eq]
  have latest_iff (m : Nat) : (i.song.interludes.filter (fun m => m ≤ i.time)).max? = some m
      ↔ m ∈ past ∧ ∀ n ∈ past, n ≤ m := by
    rw [List.max?_eq_some_iff, past_iff]
    exact and_congr_right fun _ => forall_congr' fun n => by rw [past_iff]
  have found (m : Nat) (latest : (i.song.interludes.filter (fun m => m ≤ i.time)).max? = some m) :
      i.holds = true
        ↔ ∀ e, i.song.index.lines.find? (fun e => decide (m ≤ e.start)) = some e → i.time + i.lead < e.start := by
    rw [LyricInputs.holds, latest]
    dsimp only
    cases i.song.index.lines.find? (fun e => decide (m ≤ e.start)) with
    | none => simp
    | some e => simp [LyricInputs.due]
  refine ⟨fun holds => ?_, fun ⟨m, hm, most, next⟩ => (found m ((latest_iff m).2 ⟨hm, most⟩)).2 next⟩
  cases latest : (i.song.interludes.filter (fun m => m ≤ i.time)).max? with
  | none =>
    rw [LyricInputs.holds, latest] at holds
    cases holds
  | some m =>
    obtain ⟨hm, most⟩ := (latest_iff m).1 latest
    exact ⟨m, hm, most, (found m latest).1 holds⟩

theorem State.fitZones_lead (s : State) : s.fitZones.ps.profile.lead = s.ps.profile.lead := by
  unfold State.fitZones
  dsimp only
  split <;> rfl

/-- The hold after a frame start is the one its inputs give, in the ROWS mode. -/
theorem State.holdOn_frameStart (s : State) (size : Option (Nat × Nat)) :
    ∃ i : LyricInputs, i.song = s.sl.playingSong.getD Song.blank ∧ i.time = s.sc.songTime
      ∧ i.lead = s.ps.profile.lead
      ∧ ((s.frameStart size).lr.holdOn = true ↔ s.lr.mode = .rows ∧ i.holds = true) := by
  rw [State.frameStart_lr, State.lyricFrame_holdOn]
  generalize hu : (s.withVc (s.vc.resize size)).fitZones.latch.relayout s.vc.layoutKey = u
  refine ⟨u.lyricInputs u.sc.songTime, ?_, ?_, ?_, ?_⟩
  · simp [← hu, State.lyricInputs]
  · simp [← hu, State.lyricInputs]
  · simp [← hu, State.lyricInputs, State.fitZones_lead]
  · have mode : u.lr.mode = s.lr.mode := by
      rw [← hu, (State.relayout_joined _ _).mode, State.latch_lr, State.fitZones_lr]
      rfl
    rw [Bool.and_eq_true, beq_iff_eq, mode]

/-! ### Payloads of the status reads (R84, R132, R156, R171) -/

theorem shownPayload_length (l : ShownLine) : (shownPayload l).length = 4 := rfl

theorem scrollPayload_eq (c : Option Scroll) :
    scrollPayload c = be1 (c.getD ⟨0, 0, 0⟩).distance ++ be1 (c.getD ⟨0, 0, 0⟩).done ++ be1 (c.getD ⟨0, 0, 0⟩).frames := by
  cases c <;> rfl

theorem encScore_songScore (k : ScoreLane) :
    encScore k.songScore
      = be2 (if k.frameCount = 0 ∨ k.engaged = false then 0xFFFF else 1000 * k.hitSum / (8 * k.frameCount)) := by
  rw [encScore, ScoreLane.songScore]
  by_cases h : k.frameCount = 0 ∨ k.engaged = false
  · rw [if_pos h, if_pos (by simpa using h)]; rfl
  · rw [if_neg h, if_neg (by simpa using h)]; rfl

/-- The CUED slot state, slot by slot (R46). -/
theorem State.cuedSlot_of_none {s : State} (h : cuedEntry s.qm.queue = none) : s.cuedSlot = .empty := by
  simp [State.cuedSlot, h]

theorem State.cuedSlot_of_some {s : State} {e : Entry} (h : cuedEntry s.qm.queue = some e) :
    s.cuedSlot
      = if s.sl.slotA.ticket = some e.ticket then s.sl.slotA
        else if s.sl.slotB.ticket = some e.ticket then s.sl.slotB else .empty := by
  rw [State.cuedSlot, h, Option.bind_some, SongLoader.carrying]
  split
  · rfl
  · split <;> rfl

theorem State.statusPayload_length (s : State) : s.statusPayload.length = 22 := by
  have stage : (encStageState s.sc.stage).length = 1 := by cases s.sc.stage <;> rfl
  have slot : (encSlotState s.cuedSlot).length = 1 := by cases s.cuedSlot <;> rfl
  simp only [State.statusPayload, List.length_append, stage, slot]
  rfl

theorem lyricPayload_length (r : LyricRenderer) (g : Geometry) :
    (lyricPayload r g).length = 22 + 4 * r.stack.length := by
  have mode : (encDisplayMode r.mode).length = 1 := by cases r.mode <;> rfl
  have shown : (r.stack.flatMap shownPayload).length = 4 * r.stack.length := by
    simp [List.length_flatMap, shownPayload_length, Nat.mul_comm]
  simp only [lyricPayload, List.length_append, mode, shown, scrollPayload_eq, encBool_eq, Laws.be1_length, Laws.be2_length]
  omega

theorem videoPayload_length (v : VideoCompositor) (f : FrameSettings) : (videoPayload v f).length = 19 := by
  have lock : (encLockState v.lock).length = 1 := by cases v.lock <;> rfl
  have field (n : Nat) : (encMeasured n).length = 2 := by
    unfold encMeasured
    split <;> rfl
  have measured : (measuredPayload v.lastMeasured).length = 5 := by
    cases v.lastMeasured with
    | none => rfl
    | some m => simp only [measuredPayload, List.length_append, field, encBool_eq, Laws.be1_length]
  simp only [videoPayload, List.length_append, lock, measured]
  rfl

theorem measuredPayload_eq {last : Option MeasuredSize} {m : MeasuredSize} (h : m = last.getD ⟨0, 0, false⟩)
    (width : m.width < 65536) (height : m.height < 65536) :
    measuredPayload last = be2 m.width ++ be2 m.height ++ be1 (if m.inRange = true then 1 else 0) := by
  cases last with
  | none => subst h; rfl
  | some k =>
    obtain rfl : m = k := h
    rw [measuredPayload, encMeasured, if_pos width, encMeasured, if_pos height, encBool_eq]

theorem exec_outputFrameStart_of_lost {s : State} (outside : s.inReset = false) (lost : s.vc.lock = .lost)
    (timing : s.vc.internalTiming = true) : exec .outputFrameStart s = .next (s.frameStart none) :=
  congrArg Host.Outcome.next ((State.outsideReset_of outside _).trans (if_pos ⟨lost, timing⟩))

/-- Settles O46: the three reads, their payloads field by field, and the interlude hold of a frame start. -/
theorem statusReadsAnswer : Obligations.StatusReadsAnswer := by
  unfold Obligations.StatusReadsAnswer
  refine ⟨fun src s => ⟨fun h => ⟨?_, s.statusPayload_length⟩, fun h => ⟨?_, lyricPayload_length _ _⟩,
    fun h => ⟨?_, videoPayload_length _ _⟩⟩, ?_, ?_, ?_, fun r g newest mode => ⟨rfl, rfl⟩, ?_⟩
  · exact congrArg Host.Outcome.next (State.command_of_accepts h (State.scStatus src))
  · exact congrArg Host.Outcome.next (State.command_of_accepts h (State.lrStatus src))
  · exact congrArg Host.Outcome.next (State.command_of_accepts h (State.vcStatus src))
  · intro s stage playing cued slot slotByte score0 score1 hstage hplaying hcued hslot hbyte hscore0 hscore1
    have stageAt : encStageState s.sc.stage = be1 stage := by
      rw [hstage]; cases s.sc.stage <;> rfl
    have slotIs : s.cuedSlot = slot := by
      rw [hslot]
      cases h : s.qm.queue.find? (fun e => e.state == .cued) with
      | none => exact State.cuedSlot_of_none h
      | some e => exact State.cuedSlot_of_some h
    have slotAt : encSlotState s.cuedSlot = be1 slotByte := by
      rw [slotIs, hbyte]; cases slot <;> rfl
    have scores : laneStatus s.su.lanes.lane0 = be2 score0 ++ be2 s.su.lanes.lane0.streak
        ∧ laneStatus s.su.lanes.lane1 = be2 score1 ++ be2 s.su.lanes.lane1.streak := by
      rw [laneStatus, laneStatus, encScore_songScore, encScore_songScore, ← hscore0, ← hscore1]
      exact ⟨rfl, rfl⟩
    rw [State.statusPayload, stageAt, slotAt, scores.1, scores.2, encBool_eq, hplaying, hcued]
    simp only [List.append_assoc]
    rfl
  · rintro r g mode c hmode rfl
    have modeAt : encDisplayMode r.mode = be1 mode := by
      rw [hmode]; cases r.mode <;> rfl
    have noRows : encBool g.noRows = be1 (if g.rows = 0 then 1 else 0) := by
      rw [encBool, Geometry.noRows]
      by_cases h : g.rows = 0
      · rw [if_pos h, h]; rfl
      · rw [if_neg h, beq_false_of_ne h]; rfl
    have shown : r.stack.flatMap shownPayload
        = r.stack.flatMap (fun l => be2 l.number ++ be1 l.rows ++ be1 (if l.spent = true then 1 else 0)) :=
      congrArg r.stack.flatMap (funext fun l => by rw [shownPayload, encBool_eq])
    rw [lyricPayload, modeAt, noRows, shown, scrollPayload_eq, encBool_eq]
    simp only [List.append_assoc]
    rfl
  · intro v f m hm width height
    have lockAt : encLockState v.lock = be1 (if v.lock = .locked then 0 else 1) := by cases v.lock <;> rfl
    rw [videoPayload, lockAt, measuredPayload_eq hm width height, encBool_eq]
    simp only [heightsPayload, List.append_assoc]
  · rintro s g past size rfl hpast
    obtain ⟨i, song, time, lead, holds⟩ := s.holdOn_frameStart size
    refine ⟨?_, fun outside lost timing => ?_⟩
    · rw [holds, ← time, ← lead, ← song]
      exact and_congr_right fun _ => LyricInputs.holds_iff (by rw [song, time]; exact hpast)
    · exact exec_outputFrameStart_of_lost outside lost timing

/-! ### GLYPH-LOAD and IDLE-TEXT (R111, R136) -/

theorem glyphAccepted_iff {p : GlyphParams} :
    glyphAccepted p = true ↔ p.code ≤ 1023 ∧ 1 ≤ p.advance ∧ p.advance ≤ 32 ∧ p.maskWidth ≤ 32 := by
  simp only [glyphAccepted, Bool.and_eq_true, decide_eq_true_eq, and_assoc]
  rfl

theorem idleAccepted_iff {text : List Nat} : idleAccepted text = true ↔ text.length ≤ 48 ∧ ∀ c ∈ text, c ≤ 1023 := by
  simp only [idleAccepted, Bool.and_eq_true, decide_eq_true_eq, List.all_eq_true]
  rfl

/-- Settles O52: both commands by their values; the loaded place is read back. -/
theorem glyphsAndIdleText : Obligations.GlyphsAndIdleText := by
  unfold Obligations.GlyphsAndIdleText
  refine fun src s => ⟨fun h p => ?_, fun h text => ?_⟩
  · have taken : exec (.glyphLoad src p) s = .next ((s.route src .glyphLoad).lrGlyphLoad src p) :=
      congrArg Host.Outcome.next (State.command_of_accepts h _)
    refine ⟨fun bad => ?_, fun code low high width table => ?_⟩
    · have refused : ¬ glyphAccepted p = true := by
        rw [glyphAccepted_iff]; omega
      exact taken.trans (congrArg Host.Outcome.next (if_neg refused))
    · have accepted : glyphAccepted p = true := glyphAccepted_iff.2 ⟨code, low, high, width⟩
      refine ⟨loadGlyph ⟨p.code, glyphOf p⟩ s.lr.glyphs, glyphTableWf_loadGlyph _ _ code table, ?_, fun other ne => ?_,
        taken.trans (congrArg Host.Outcome.next (if_pos accepted))⟩
      · rw [glyphAt_loadGlyph _ _ table, if_pos rfl]; rfl
      · rw [glyphAt_loadGlyph _ _ table, if_neg ne]
  · have taken : exec (.idleText src text) s = .next ((s.route src .idleText).tuIdleText src text) :=
      congrArg Host.Outcome.next (State.command_of_accepts h _)
    refine ⟨fun bad => ?_, fun short codes => ?_⟩
    · have refused : ¬ idleAccepted text = true := by
        rw [idleAccepted_iff]
        rintro ⟨short, codes⟩
        obtain long | ⟨c, hc, high⟩ := bad
        · omega
        · exact absurd (codes c hc) (Nat.not_le.2 high)
      exact taken.trans (congrArg Host.Outcome.next (if_neg refused))
    · exact taken.trans (congrArg Host.Outcome.next (if_pos (idleAccepted_iff.2 ⟨short, codes⟩)))

/-! ### The ticker (R133 to R137) -/

theorem digitCodes_eq (k : Nat) : ∀ v : Nat, 0 < v → v < 10 ^ k →
    digitCodes k v = ((Nat.digits 10 v).reverse).map (fun d => 48 + d) := by
  induction k with
  | zero => intro v positive small; omega
  | succ k ih =>
    intro v positive small
    rw [digitCodes, Nat.digits_def' (by decide) positive]
    by_cases single : v < 10
    · rw [if_pos single, Nat.div_eq_of_lt single, Nat.mod_eq_of_lt single, Nat.digits_zero]
      rfl
    · rw [if_neg single, ih (v / 10) (by omega) (by rw [Nat.pow_succ] at small; omega)]
      simp

theorem decimalCodes_eq {n : Nat} (h : n < 10 ^ 20) :
    decimalCodes n = if n = 0 then [48] else ((Nat.digits 10 n).reverse).map (fun d => 48 + d) := by
  by_cases zero : n = 0
  · rw [if_pos zero, zero]; rfl
  · rw [if_neg zero, decimalCodes, digitCodes_eq 20 n (Nat.pos_of_ne_zero zero) h]

theorem wrapOffset_lt (offset width : Nat) : wrapOffset offset width < width ∨ wrapOffset offset width = 0 := by
  unfold wrapOffset
  split
  · exact .inr rfl
  · exact .inl (Nat.mod_lt _ (by omega))

/-- The text of an entry the ticker takes (R134). -/
theorem QueueManager.tickerEntry_eq (q : QueueManager) (e : Entry) :
    q.tickerEntry e
      = decimalCodes e.ticket ++ [32] ++ (if e.title = [] then decimalCodes e.song else e.title)
        ++ ((e.singer.bind q.singerAt).map (fun g => 32 :: g.name)).getD [] := by
  have name : ((q.nameAt e.singer).map (fun n => 32 :: n)).getD []
      = ((e.singer.bind q.singerAt).map (fun g => 32 :: g.name)).getD [] := by
    rw [QueueManager.nameAt]
    cases e.singer with
    | none => rfl
    | some n =>
      rw [Option.bind_some, Option.bind_some]
      cases q.singerAt n <;> rfl
  simp only [QueueManager.tickerEntry, name, titleText, List.isEmpty_iff]

theorem TickerUnit.rebuild_eq (u : TickerUnit) (q : QueueManager) (table : List GlyphPlace) (count : Nat)
    {taken : List Entry} {text cycle advances : List Nat}
    (htaken : taken = (q.queue.filter (fun e => e.state == .cued || e.state == .waiting)).take count)
    (htext : text = if taken = [] then u.idleText
      else List.intercalate [32, 32, 32] (taken.map q.tickerEntry))
    (hcycle : cycle = if text = [] then [] else text ++ [32, 32, 32])
    (hadvances : advances = cycle.map (fun code => ((glyphAt table code).map (fun g => g.advance)).getD 16)) :
    u.rebuild q table count
      = { text := text
          advances := advances
          offset := if advances.sum = 0 then 0 else u.offset % advances.sum
          builtCount := count
          mark := false
          idleText := u.idleText } := by
  have textIs : q.tickerText count u.idleText = text := by
    rw [htext, htaken]
    simp only [QueueManager.tickerText, QueueManager.tickerEntries, List.isEmpty_iff]
  have cycleIs : tickerCycle text = cycle := by
    rw [hcycle]
    simp only [tickerCycle, List.isEmpty_iff]
  have advancesIs : (tickerCycle text).map (fun c => (layGlyph table c).advance) = advances := by
    rw [cycleIs, hadvances]; rfl
  rw [TickerUnit.rebuild, textIs, advancesIs]
  rfl

/-- The ticker's work reads the queue, the glyphs and the ticker's own settings. -/
theorem State.tickerFrame_congr {s t : State} (qm : t.qm = s.qm) (glyphs : t.lr.glyphs = s.lr.glyphs) (tu : t.tu = s.tu)
    (count : t.ps.profile.tickerCount = s.ps.profile.tickerCount)
    (speed : t.ps.profile.tickerSpeed = s.ps.profile.tickerSpeed) : t.tickerFrame.tu = s.tickerFrame.tu := by
  simp only [State.tickerFrame, qm, glyphs, tu, count, speed, State.withTu]

/-- The staged heights change, and no other field of the profile. -/
theorem State.fitZones_ps (s : State) :
    ∃ f, s.fitZones.ps = { s.ps with profile := s.ps.profile.stage f } := by
  unfold State.fitZones
  dsimp only
  split
  · exact ⟨s.ps.profile.staged, rfl⟩
  · exact ⟨_, rfl⟩

theorem State.frameStart_tu (s : State) (size : Option (Nat × Nat)) : (s.frameStart size).tu = s.tickerFrame.tu := by
  obtain ⟨f, ps⟩ := (s.withVc (s.vc.resize size)).fitZones_ps
  have tu : (s.frameStart size).tu
      = ((s.withVc (s.vc.resize size)).fitZones.latch.lyricFrame s.vc.layoutKey).tickerFrame.tu := by
    simp [State.frameStart]
  rw [tu]
  refine State.tickerFrame_congr ?_ ?_ ?_ ?_ ?_
  · simp
  · rw [(State.lyricFrame_joined _ _).glyphs]; simp
  · simp
  · rw [State.lyricFrame_ps, State.latch_ps, ps]; rfl
  · rw [State.lyricFrame_ps, State.latch_ps, ps]; rfl

/-- Settles O54: the rebuild and the advance, at every frame start, and the rebuilt text. -/
theorem tickerMovesOn : Obligations.TickerMovesOn := by
  unfold Obligations.TickerMovesOn
  refine ⟨fun s built hbuilt => ?_, fun s outside lost timing => ⟨_, exec_outputFrameStart_of_lost outside lost timing,
    s.frameStart_tu none⟩, fun s size => s.frameStart_tu size, ?_, fun n h => decimalCodes_eq h⟩
  · have work : s.tickerFrame = s.withTu (built.advance s.ps.profile.tickerSpeed) := by
      rw [hbuilt, State.tickerFrame]
      simp only [Bool.or_eq_true, bne_iff_ne]
    rw [work]
    refine ⟨rfl, rfl, wrapOffset_lt _ _, fun changed => ?_⟩
    rw [if_pos (.inr changed)] at hbuilt
    rw [hbuilt]
    exact ⟨rfl, rfl⟩
  · intro u q table count taken text cycle advances htaken htext hcycle hadvances
    refine TickerUnit.rebuild_eq u q table count htaken (htext.trans (congrArg
      (fun entry => if taken = [] then u.idleText else List.intercalate [32, 32, 32] (taken.map entry))
      (funext fun e => ?_))) hcycle hadvances
    rw [q.tickerEntry_eq]
    cases e.singer.bind q.singerAt <;> rfl

end Sys2Proof.Machine
end

section
/-! PROOFS. The video path (chapter 8): blending, the output frame start, and the lock. -/

namespace Sys2Proof.Machine

/-! ### Blending (R151, R152, R155) -/

theorem blendComponent_full (overlay video : Nat) : blendComponent 16 overlay video = overlay := by
  unfold blendComponent; omega

theorem blendComponent_zero (overlay video : Nat) : blendComponent 0 overlay video = video := by
  unfold blendComponent; omega

/-- The blend is the rounded mean, so it lies between the two values. -/
theorem blendComponent_bounds {alpha : Nat} (overlay video : Nat) (h : alpha ≤ 16) :
    16 * blendComponent alpha overlay video ≤ alpha * overlay + (16 - alpha) * video + 8
      ∧ alpha * overlay + (16 - alpha) * video + 8 < 16 * blendComponent alpha overlay video + 16
      ∧ min overlay video ≤ blendComponent alpha overlay video
      ∧ blendComponent alpha overlay video ≤ max overlay video := by
  have low : 16 * min overlay video ≤ alpha * overlay + (16 - alpha) * video := by
    calc 16 * min overlay video = alpha * min overlay video + (16 - alpha) * min overlay video := by
          rw [← Nat.add_mul, Nat.add_sub_cancel' h]
      _ ≤ alpha * overlay + (16 - alpha) * video :=
          Nat.add_le_add (Nat.mul_le_mul_left _ (min_le_left _ _)) (Nat.mul_le_mul_left _ (min_le_right _ _))
  have high : alpha * overlay + (16 - alpha) * video ≤ 16 * max overlay video := by
    calc alpha * overlay + (16 - alpha) * video ≤ alpha * max overlay video + (16 - alpha) * max overlay video :=
          Nat.add_le_add (Nat.mul_le_mul_left _ (le_max_left _ _)) (Nat.mul_le_mul_left _ (le_max_right _ _))
      _ = 16 * max overlay video := by rw [← Nat.add_mul, Nat.add_sub_cancel' h]
  unfold blendComponent
  generalize alpha * overlay + (16 - alpha) * video = mean at low high ⊢
  omega

/-- A value blended with itself stays, at an alpha of the range. -/
theorem blend_self {alpha : Nat} (c : Rgb) (h : alpha ≤ 16) : blend alpha c c = c := by
  have same (n : Nat) : blendComponent alpha n n = n := by
    obtain ⟨-, -, low, high⟩ := blendComponent_bounds n n h
    omega
  simp only [blend, same]

theorem VideoCompositor.videoValue_eq (v : VideoCompositor) (input : Option Rgb) :
    v.videoValue input = if v.lock = .locked then input.getD v.live.background else v.live.background := by
  unfold VideoCompositor.videoValue
  cases v.lock <;> rfl

theorem State.outputPixel_of_inside {s : State} {line col : Nat} (hl : line < s.vc.height) (hc : col < s.vc.width)
    (input : Option Rgb) : s.outputPixel input line col = some (s.overlaid (s.vc.videoValue input) line col) :=
  if_pos ⟨hl, hc⟩

/-- The zone of a line by the bands of the picture, whose heights fit it. -/
theorem VideoCompositor.zoneAt_bands (v : VideoCompositor) (p : Picture) (line : Nat)
    (fits : v.live.ht + v.live.hl + v.live.hm ≤ v.height) :
    (line < v.live.ht → v.zoneAt p line = some ⟨p.ticker, v.live.tickerGlyph, v.live.tickerBox⟩)
      ∧ (v.live.ht ≤ line → line + v.live.hl + v.live.hm < v.height → v.zoneAt p line = none)
      ∧ (v.height ≤ line + v.live.hl + v.live.hm → line + v.live.hm < v.height →
          v.zoneAt p line = some ⟨p.lyric, v.live.lyricGlyph, v.live.lyricBox⟩)
      ∧ (v.height ≤ line + v.live.hm → v.zoneAt p line = some ⟨p.meter, v.live.meterGlyph, v.live.meterBox⟩) := by
  unfold VideoCompositor.zoneAt
  refine ⟨fun h => if_pos h, fun h1 h2 => ?_, fun h1 h2 => ?_, fun h => ?_⟩
  · rw [if_neg (by omega), if_pos (by omega)]
  · rw [if_neg (by omega), if_neg (by omega), if_pos (by omega)]
  · rw [if_neg (by omega), if_neg (by omega), if_neg (by omega)]

theorem State.settingsInRange.boxAlpha_le {s : State} (h : s.settingsInRange) (z : Zone) : s.vc.live.boxAlpha z ≤ 16 := by
  obtain ⟨-, live, -⟩ := h
  have range := (FieldRange.clamp_plain_iff (by omega) _).1 (live (.boxAlpha z))
  simp only [Profile.get, Profile.stage] at range
  omega

theorem VideoCompositor.boxAlpha_of_zoneAt {v : VideoCompositor} {p : Picture} {line : Nat} {z : ZoneBlend}
    (h : v.zoneAt p line = some z) : ∃ zone, z.boxAlpha = v.live.boxAlpha zone := by
  unfold VideoCompositor.zoneAt at h
  split at h
  · exact ⟨.ticker, by rw [← Option.some.inj h]; rfl⟩
  · split at h
    · cases h
    · split at h
      · exact ⟨.lyric, by rw [← Option.some.inj h]; rfl⟩
      · exact ⟨.meter, by rw [← Option.some.inj h]; rfl⟩

theorem State.overlaid_of_zone {s : State} {p : Picture} {line col : Nat} {z : ZoneBlend}
    (picture : s.vc.picture = some p) (zone : s.vc.zoneAt p line = some z) (video : Rgb) :
    (∀ c, z.drawing.colourAt line col = some c → s.overlaid video line col = blend z.glyphAlpha c video)
      ∧ (z.drawing.colourAt line col = none →
          s.overlaid video line col = blend z.boxAlpha s.vc.live.background video) := by
  rw [State.overlaid, picture, Option.bind_some, zone]
  dsimp only
  exact ⟨fun c hc => by rw [hc], fun clear => by rw [clear]⟩

theorem State.overlaid_of_no_zone {s : State} {line : Nat} (h : ∀ p, s.vc.picture = some p → s.vc.zoneAt p line = none)
    (video : Rgb) (col : Nat) : s.overlaid video line col = video := by
  have none : s.vc.picture.bind (fun p => s.vc.zoneAt p line) = none := by
    cases hp : s.vc.picture with
    | none => rfl
    | some p => exact h p hp
  rw [State.overlaid, none]

/-- Settles O56: the blend's bounds, the pixels no drawing reaches, and the bands. -/
theorem blendIsExactAtTheEnds : Obligations.BlendIsExactAtTheEnds := by
  unfold Obligations.BlendIsExactAtTheEnds
  refine ⟨fun alpha overlay video h => ?_, fun s input line col => ⟨fun out => ?_, fun hl hc => ⟨fun free => ?_,
    fun lost settings free => ?_⟩⟩, ?_⟩
  · obtain ⟨low, high, least, most⟩ := blendComponent_bounds overlay video h
    exact ⟨low, high, least, most, blendComponent_full overlay video, blendComponent_zero overlay video⟩
  · exact if_neg (by omega)
  · rw [State.outputPixel_of_inside hl hc, State.overlaid_of_no_zone free, VideoCompositor.videoValue_eq]
  · have video : s.vc.videoValue input = s.vc.live.background := by
      rw [VideoCompositor.videoValue_eq, if_neg (by simp [lost])]
    rw [State.outputPixel_of_inside hl hc, video]
    refine congrArg some ?_
    by_cases clear : ∀ p, s.vc.picture = some p → s.vc.zoneAt p line = none
    · exact State.overlaid_of_no_zone clear _ col
    · obtain ⟨p, picture, some⟩ : ∃ p, s.vc.picture = some p ∧ s.vc.zoneAt p line ≠ none := by
        simpa using clear
      obtain ⟨z, zone⟩ := Option.ne_none_iff_exists'.1 some
      obtain ⟨which, alpha⟩ := VideoCompositor.boxAlpha_of_zoneAt zone
      rw [(State.overlaid_of_zone picture zone _).2 (free p z picture zone), alpha]
      exact blend_self _ (settings.boxAlpha_le which)
  · intro s p input line col video mixed picture hl hc fits hvideo hmixed
    have shown (z : ZoneBlend) (zone : s.vc.zoneAt p line = some z) :
        s.outputPixel input line col = some (mixed z.drawing z.glyphAlpha z.boxAlpha) := by
      obtain ⟨glyph, box⟩ := State.overlaid_of_zone (col := col) picture zone video
      obtain ⟨mixedGlyph, mixedBox⟩ := hmixed z.drawing z.glyphAlpha z.boxAlpha
      rw [State.outputPixel_of_inside hl hc, VideoCompositor.videoValue_eq, ← hvideo]
      refine congrArg some ?_
      cases colour : z.drawing.colourAt line col with
      | some c => rw [glyph c colour, mixedGlyph c colour]; rfl
      | none => rw [box colour, mixedBox colour]; rfl
    obtain ⟨ticker, clear, lyric, meter⟩ := s.vc.zoneAt_bands p line fits
    refine ⟨fun h => shown _ (ticker h), fun h1 h2 => ?_, fun h1 h2 => shown _ (lyric h1 h2), fun h => shown _ (meter h)⟩
    have free : ∀ q, s.vc.picture = some q → s.vc.zoneAt q line = none := by
      intro q hq
      obtain rfl := Option.some.inj (picture.symm.trans hq)
      exact clear h1 h2
    rw [State.outputPixel_of_inside hl hc, State.overlaid_of_no_zone free, VideoCompositor.videoValue_eq, hvideo]

/-! ### The output frame start (R153, R154) -/

/-- The staged settings as a frame start of this height takes them (R154). -/
def FrameSettings.fitted (f : FrameSettings) (height : Nat) : FrameSettings :=
  if f.ht + f.hl + f.hm ≤ height then f else f.fit height

theorem FrameSettings.fitted_sum (f : FrameSettings) (height : Nat) :
    (f.fitted height).ht + (f.fitted height).hl + (f.fitted height).hm ≤ height := by
  unfold FrameSettings.fitted
  split
  · assumption
  · exact f.fit_sum height

/-- Where the ticker and the meter fit, only the lyric zone is lowered. -/
theorem FrameSettings.fitted_eq {f : FrameSettings} {height : Nat} (h : f.ht + f.hm ≤ height) :
    f.fitted height = { f with hl := min f.hl (height - f.ht - f.hm) } := by
  unfold FrameSettings.fitted
  split
  · next fits =>
    have lyric : min f.hl (height - f.ht - f.hm) = f.hl := by omega
    rw [lyric]
  · next tooHigh =>
    have lyric : lowered 0 (height - f.ht - f.hm) f.hl = min f.hl (height - f.ht - f.hm) := by
      rw [lowered, if_neg (by omega), if_neg (by omega)]; omega
    have meter : lowered 48 (height - f.ht - min f.hl (height - f.ht - f.hm)) f.hm = f.hm := if_pos (by omega)
    have ticker : lowered 24 (height - min f.hl (height - f.ht - f.hm) - f.hm) f.ht = f.ht := if_pos (by omega)
    rw [FrameSettings.fit, lyric, meter, ticker]

theorem State.fitZones_ps_fitted (s : State) :
    s.fitZones.ps = { s.ps with profile := s.ps.profile.stage (s.ps.profile.staged.fitted s.vc.height) } := by
  unfold State.fitZones FrameSettings.fitted
  dsimp only
  split <;> rfl

/-- GEOMETRY-CLAMPED where the staged heights do not fit (R153). -/
theorem State.fitZones_ports (s : State) :
    s.fitZones.ports.transaction = s.ports.transaction ∧ s.fitZones.ports.miso = s.ports.miso
      ∧ ∀ src, s.fitZones.port src
        = { s.port src with
            events :=
              (s.port src).events
                ||| (if s.vc.height < s.ps.profile.staged.ht + s.ps.profile.staged.hl + s.ps.profile.staged.hm then
                  Event.geometryClamped.bit else 0#12) } := by
  unfold State.fitZones
  dsimp only
  split
  · next fits =>
    refine ⟨rfl, rfl, fun src => ?_⟩
    rw [if_neg (Nat.not_lt.2 fits), BitVec.or_zero]
  · next tooHigh =>
    refine ⟨rfl, rfl, fun src => ?_⟩
    rw [if_pos (Nat.lt_of_not_le tooHigh), State.port_raiseAll]
    rfl

/-- What an output frame start does, block by block. -/
theorem State.frameStart_ps (s : State) (size : Option (Nat × Nat)) :
    (s.frameStart size).ps
      = { s.ps with
          profile := s.ps.profile.stage (s.ps.profile.staged.fitted (s.vc.resize size).height) } := by
  rw [State.frameStart, State.draw_ps, State.meterFrame_ps, State.tickerFrame_ps, State.lyricFrame_ps, State.latch_ps,
    State.fitZones_ps_fitted]
  rfl

theorem State.frameStart_vc (s : State) (size : Option (Nat × Nat)) :
    (s.frameStart size).vc
      = { s.vc.resize size with
          live := s.ps.profile.staged.fitted (s.vc.resize size).height
          picture :=
            some ⟨(s.frameStart size).tickerDrawing, (s.frameStart size).lyricDrawing,
              (s.frameStart size).meterDrawing⟩ } := by
  have drawn (u : State) : u.draw.vc
      = { u.vc with picture := some ⟨u.draw.tickerDrawing, u.draw.lyricDrawing, u.draw.meterDrawing⟩ } := rfl
  have latched : (s.withVc (s.vc.resize size)).fitZones.latch.vc
      = { s.vc.resize size with live := s.ps.profile.staged.fitted (s.vc.resize size).height } := by
    rw [State.latch, State.fitZones_ps_fitted, State.fitZones_vc]
    rfl
  rw [State.frameStart, drawn, State.meterFrame_vc, State.tickerFrame_vc, State.lyricFrame_vc, latched]

theorem State.frameStart_ports (s : State) (size : Option (Nat × Nat)) :
    (s.frameStart size).ports.transaction = s.ports.transaction ∧ (s.frameStart size).ports.miso = s.ports.miso
      ∧ ∀ src, (s.frameStart size).port src
        = { s.port src with
            events :=
              (s.port src).events
                ||| (if (s.vc.resize size).height
                    < s.ps.profile.staged.ht + s.ps.profile.staged.hl + s.ps.profile.staged.hm then
                  Event.geometryClamped.bit else 0#12) } := by
  have ports : (s.frameStart size).ports = (s.withVc (s.vc.resize size)).fitZones.ports := by simp [State.frameStart]
  unfold State.port
  rw [ports]
  exact (s.withVc (s.vc.resize size)).fitZones_ports

theorem State.meterFrame_window (s : State) :
    ((s.sc.stage = .playing ∨ s.sc.stage = .paused) →
        s.meterFrame.mu.window = if s.vc.live.hm = 0 then none else some s.buildMeter)
      ∧ (s.sc.stage ≠ .playing → s.sc.stage ≠ .paused →
          s.meterFrame.mu.window = if s.sc.stage = .ending then s.mu.window else none) := by
  unfold State.meterFrame
  cases s.sc.stage <;> simp [State.withMu]

/-- The meter of a frame start; the picture drawn after it does not change what it reads. -/
theorem State.frameStart_mu (s : State) (size : Option (Nat × Nat)) :
    ((s.sc.stage = .playing ∨ s.sc.stage = .paused) →
        (s.frameStart size).mu.window
          = if (s.frameStart size).vc.live.hm = 0 then none else some (s.frameStart size).buildMeter)
      ∧ (s.sc.stage ≠ .playing → s.sc.stage ≠ .paused →
          (s.frameStart size).mu.window = if s.sc.stage = .ending then s.mu.window else none) := by
  generalize hu : ((s.withVc (s.vc.resize size)).fitZones.latch.lyricFrame s.vc.layoutKey).tickerFrame = u
  have stage : u.sc.stage = s.sc.stage := by rw [← hu]; simp
  have window : u.mu.window = s.mu.window := by rw [← hu]; simp
  have start : s.frameStart size = u.meterFrame.draw := by rw [← hu]; rfl
  have built : u.meterFrame.draw.buildMeter = u.buildMeter := by
    have same (v : State) (m : MeterUnit) : (v.withMu m).draw.buildMeter = v.buildMeter := rfl
    unfold State.meterFrame
    cases u.sc.stage <;> exact same u _
  obtain ⟨onSong, offSong⟩ := u.meterFrame_window
  rw [start, ← stage, ← window]
  refine ⟨fun h => ?_, fun h1 h2 => offSong h1 h2⟩
  rw [built]
  refine (onSong h).trans ?_
  have live : u.meterFrame.draw.vc.live = u.vc.live := by
    have drawn (v : State) : v.draw.vc.live = v.vc.live := rfl
    rw [drawn, State.meterFrame_vc]
  rw [live]

theorem State.frameStart_glyphs (s : State) (size : Option (Nat × Nat)) :
    (s.frameStart size).lr.glyphs = s.lr.glyphs := by
  rw [State.frameStart_lr, (State.lyricFrame_joined _ _).glyphs]; simp

theorem State.settingsInRange.staged_fits {s : State} (h : s.settingsInRange) {height : Nat} (tall : 360 ≤ height) :
    s.ps.profile.staged.ht + s.ps.profile.staged.hm ≤ height := by
  obtain ⟨ticker, -, meter⟩ := h.1.heights
  omega

theorem VideoCompositor.resize_eq (v : VideoCompositor) {size : Option (Nat × Nat)} {w h : Nat}
    (hsize : (w, h) = size.getD (v.width, v.height)) : v.resize size = { v with width := w, height := h } := by
  cases size with
  | none =>
    obtain ⟨rfl, rfl⟩ := Prod.mk.inj hsize
    rfl
  | some k =>
    obtain rfl : (w, h) = k := hsize
    rfl

theorem exec_outputFrameStart_of_idle {s : State} (outside : s.inReset = false)
    (idle : s.vc.lock = .locked ∨ s.vc.internalTiming = false) : exec .outputFrameStart s = .next s := by
  refine congrArg Host.Outcome.next ((State.outsideReset_of outside _).trans (if_neg ?_))
  rintro ⟨lost, timing⟩
  obtain h | h := idle
  · rw [lost] at h; cases h
  · rw [timing] at h; cases h

/-- Settles O53: ZONES by its checks, and an output frame start block by block. -/
theorem zonesAndFrameStart : Obligations.ZonesAndFrameStart := by
  unfold Obligations.ZonesAndFrameStart
  refine ⟨fun src ht hl hm s h => ⟨fun bad => ?_, fun ticker meter sum => ?_⟩, fun s outside lost timing settings => ?_,
    fun s outside => ⟨exec_outputFrameStart_of_lost outside, exec_outputFrameStart_of_idle outside⟩, ?_⟩
  · have refused : ¬ zonesAccepted s.vc.height ht hl hm = true := by
      rw [zonesAccepted_iff]; omega
    exact congrArg Host.Outcome.next ((State.command_of_accepts h (State.vcZones src ht hl hm)).trans (if_neg refused))
  · exact congrArg Host.Outcome.next ((State.command_of_accepts h (State.vcZones src ht hl hm)).trans
      (if_pos (zonesAccepted_iff.2 ⟨ticker, meter, sum⟩)))
  · have fitted := FrameSettings.fitted_eq (settings.staged_fits settings.2.2.2.2.2.2.1)
    have sum := s.ps.profile.staged.fitted_sum s.vc.height
    obtain ⟨transaction, miso, port⟩ := s.frameStart_ports none
    obtain ⟨onSong, offSong⟩ := s.frameStart_mu none
    have vc := s.frameStart_vc none
    have ps := s.frameStart_ps none
    refine ⟨_, exec_outputFrameStart_of_lost outside lost timing, ?_, ?_, ?_, fun src => ?_, ?_, fun song => ?_, offSong,
      ?_, ?_, ?_, ?_, ?_, ?_, ?_, s.frameStart_glyphs none⟩
    · rw [vc, ps]; rfl
    · rw [vc]; exact sum
    · rw [vc]; exact fitted
    · rw [port src]; rfl
    · rw [vc]
    · rw [onSong song]
      by_cases none : (s.frameStart Option.none).vc.live.hm = 0
      · rw [if_pos none]; exact ⟨fun _ => none, fun _ => rfl⟩
      · rw [if_neg none]; exact ⟨(nomatch ·), fun h => absurd h none⟩
    · rw [vc]; rfl
    · rw [ps]; rfl
    all_goals simp [State.frameStart]
  · rintro s t size w h settings hsize tall rfl
    have resized := s.vc.resize_eq hsize
    have fitted := FrameSettings.fitted_eq (settings.staged_fits tall)
    have sum := s.ps.profile.staged.fitted_sum h
    obtain ⟨transaction, miso, port⟩ := s.frameStart_ports size
    obtain ⟨onSong, offSong⟩ := s.frameStart_mu size
    have vc := s.frameStart_vc size
    have ps := s.frameStart_ps size
    rw [resized] at vc ps port
    refine ⟨?_, ?_, ?_, ?_, ?_, port, transaction, miso, ?_, onSong, offSong, ?_, ?_, ?_, ?_, ?_, ?_, ?_, ?_,
      s.frameStart_tu size, s.frameStart_glyphs size, ?_, ?_⟩
    · rw [vc]
    · rw [vc]
    · rw [vc, ps]; rfl
    · rw [vc]; exact fitted
    · rw [vc]; exact sum
    · rw [vc]
    · rw [vc]
    · rw [ps]
    · rw [ps]; rfl
    all_goals simp [State.frameStart]

/-! ### Measuring the input (R147) -/

/-- The lines of a measured frame: the first gives the width, and all of that width make it uniform. -/
theorem Measurement.foldl_line (lines : List Nat) : ∀ (m : Measurement) (width : Nat),
    width = (if m.lines = 0 then lines.headD m.firstLine else m.firstLine) →
    (lines.foldl Measurement.line m).elapsed = m.elapsed ∧ (lines.foldl Measurement.line m).lines = m.lines + lines.length
      ∧ (lines.foldl Measurement.line m).firstLine = width
      ∧ ((lines.foldl Measurement.line m).uniform = true ↔ m.uniform = true ∧ ∀ pixels ∈ lines, pixels = width) := by
  induction lines with
  | nil =>
    rintro m width rfl
    simp
  | cons x rest ih =>
    intro m width hwidth
    have first : (m.line x).firstLine = width := by
      rw [hwidth, Measurement.line]
      by_cases h : m.lines = 0 <;> simp [h]
    have uniform : (m.line x).uniform = true ↔ m.uniform = true ∧ x = width := by
      rw [hwidth, Measurement.line]
      by_cases h : m.lines = 0 <;> simp [h]
    obtain ⟨elapsed, count, width', all⟩ := ih (m.line x) width (by
      rw [first, if_neg (show (m.line x).lines ≠ 0 from Nat.succ_ne_zero _)])
    rw [List.foldl_cons]
    refine ⟨elapsed, ?_, width', ?_⟩
    · rw [count, List.length_cons]
      show m.lines + 1 + rest.length = _
      omega
    · rw [all, uniform, List.forall_mem_cons, and_assoc]

theorem Measurement.close_inRange (m : Measurement) :
    m.close.inRange = true ↔ m.elapsed ≤ 80 ∧ 640 ≤ m.firstLine ∧ m.firstLine ≤ 1280 ∧ 360 ≤ m.lines ∧ m.lines ≤ 720
      ∧ m.uniform = true := by
  simp only [Measurement.close, Bool.and_eq_true, decide_eq_true_eq, and_assoc]
  rfl

/-! ### Lock, loss and regain (R148 to R150) -/

theorem validSize_of_valid {m : MeasuredSize} (h : m.inRange = true) : validSize (some m) = some (m.width, m.height) := by
  simp [validSize, h]

theorem validSize_of_invalid {closed : Option MeasuredSize} (h : ∀ m, closed = some m → m.inRange = false) :
    validSize closed = none := by
  cases closed with
  | none => rfl
  | some m => simp [validSize, h m rfl]

/-- An input frame start, by the lock and by whether the frame it closes is in range. -/
theorem exec_inputFrameStart_of {s : State} (outside : s.inReset = false) {lines : List Nat}
    {closed : Option MeasuredSize} (hclosed : closed = s.vc.measurement.map (fun m => (lines.foldl Measurement.line m).close))
    {u : State} (hu : u = s.withVc { s.vc with measurement := some ⟨0, 0, 0, true⟩, lastMeasured := closed.or s.vc.lastMeasured }) :
    (∀ m, closed = some m → m.inRange = true →
      (s.vc.lock = .locked →
        exec (.inputFrameStart lines) s
          = .next ((u.withVc { u.vc with lossTimer := some 80 }).frameStart (some (m.width, m.height))))
      ∧ (s.vc.lock = .lost →
          exec (.inputFrameStart lines) s
            = .next (((u.withVc
                { u.vc with lock := .locked, internalTiming := false, lossTimer := some 80, everLocked := true
                }).raiseAll .videoRegained).frameStart (some (m.width, m.height)))))
    ∧ ((∀ m, closed = some m → m.inRange = false) →
        (s.vc.lock = .locked → exec (.inputFrameStart lines) s = .next (u.frameStart none))
        ∧ (s.vc.lock = .lost → exec (.inputFrameStart lines) s = .next u)) := by
  have closes : s.withVc (s.vc.closeFrame closed) = u := hu.symm
  have row : exec (.inputFrameStart lines) s = .next (s.inputFrame lines) :=
    congrArg Host.Outcome.next (State.outsideReset_of outside _)
  rw [row, State.inputFrame]
  dsimp only
  rw [← hclosed, closes]
  refine ⟨fun m hm valid => ?_, fun invalid => ?_⟩
  · rw [hm, validSize_of_valid valid]
    exact ⟨fun lock => by rw [lock]; rfl, fun lock => by rw [lock]; rfl⟩
  · rw [validSize_of_invalid invalid]
    exact ⟨fun lock => by rw [lock], fun lock => by rw [lock]⟩

/-- An event raised is in the set, whatever joins it. -/
theorem meets_of_raised (a c : BitVec 12) {b : BitVec 12} (some : b ≠ 0#12) : ((a ||| b) ||| c) &&& b ≠ 0#12 := by
  intro none
  refine some (BitVec.eq_of_getLsbD_eq fun i hi => ?_)
  have bit := congrArg (fun x => x.getLsbD i) none
  simp only [BitVec.getLsbD_and, BitVec.getLsbD_or, BitVec.getLsbD_zero] at bit ⊢
  cases hb : b.getLsbD i with
  | false => rfl
  | true => simp [hb] at bit

theorem Event.bit_ne_zero (e : Event) : e.bit ≠ 0#12 := by
  cases e with
  | micClip l => cases l <;> decide
  | _ => decide

theorem State.raised_frameStart (s : State) (e : Event) (size : Option (Nat × Nat)) (src : Source) :
    (((s.raiseAll e).frameStart size).port src).events &&& e.bit ≠ 0#12 := by
  obtain ⟨-, -, port⟩ := (s.raiseAll e).frameStart_ports size
  rw [port src, State.port_raiseAll]
  exact meets_of_raised _ _ e.bit_ne_zero

/-- The SC's part of a millisecond leaves the picture, the slots, the PT and the profile. -/
theorem State.scMillisecond_blocks (s : State) :
    s.scMillisecond.vc = s.vc ∧ s.scMillisecond.pt = s.pt ∧ s.scMillisecond.sl = s.sl ∧ s.scMillisecond.ps = s.ps
      ∧ (s.sc.stage ≠ .playing → s.sc.stage ≠ .result → s.scMillisecond = s) := by
  unfold State.scMillisecond
  split
  · next playing =>
    refine ⟨?_, ?_, ?_, ?_, fun other => absurd playing other⟩ <;>
      (unfold State.endIf; split <;> simp [State.finalise])
  · split
    · next n left =>
      have result : s.sc.stage = .result := StageController.stage_of_holdLeft left
      refine ⟨?_, ?_, ?_, ?_, fun _ other => absurd result other⟩ <;>
        (split <;> simp [State.endResult])
    · exact ⟨rfl, rfl, rfl, rfl, fun _ _ => rfl⟩

theorem exec_lossTimerExpiry_of {s : State} (outside : s.inReset = false) :
    exec .lossTimerExpiry s = .next (if s.vc.lossDue then s.scMillisecond.vcMillisecond else s) :=
  congrArg Host.Outcome.next (State.outsideReset_of outside fun t => if t.vc.lossDue then t.millisecond else t)

theorem VideoCompositor.lossDue_eq_true {v : VideoCompositor} (locked : v.lock = .locked) (last : v.lossTimer = some 1) :
    v.lossDue = true := by
  simp [VideoCompositor.lossDue, locked, last]

/-- The millisecond that ends the loss timer (R149). -/
theorem State.vcMillisecond_of_last {s : State} (locked : s.vc.lock = .locked) (last : s.vc.lossTimer = some 1) :
    s.vcMillisecond
      = (((s.withVc
          { s.vc with
            measurement := s.vc.measurement.map (fun m => { m with elapsed := m.elapsed + 1 })
            lock := .lost
            lossTimer := none
            internalTiming := true }).raiseAll .videoLost).frameStart none) := by
  rw [State.vcMillisecond, VideoCompositor.lossDue_eq_true locked last]
  rfl

theorem State.vcMillisecond_of_not_due {s : State} (h : s.vc.lossDue = false) :
    s.vcMillisecond = s.withVc s.vc.tick := by
  rw [State.vcMillisecond, h]
  rfl

/-- A millisecond counts on the measured frame. -/
theorem State.vcMillisecond_measurement (s : State) :
    s.vcMillisecond.vc.measurement = s.vc.measurement.map (fun m => { m with elapsed := m.elapsed + 1 }) := by
  unfold State.vcMillisecond
  dsimp only
  split
  · rw [State.videoLost, State.frameStart_vc]; rfl
  · rfl

/-- Settles O55: input frame starts by the lock and the closed frame, the loss timer, and the measured size. -/
theorem lockFollowsTheInput : Obligations.LockFollowsTheInput := by
  unfold Obligations.LockFollowsTheInput
  refine ⟨fun s outside => ⟨fun lines closed hclosed => ?_, fun lines closed u hclosed hu =>
      exec_inputFrameStart_of outside hclosed hu, fun u locked last hu => ?_, fun locked last => ?_,
      fun locked n timer more => ?_, ⟨_, exec_timebaseMillisecond_of outside, ?_⟩⟩, ?_⟩
  · obtain ⟨valid, invalid⟩ := exec_inputFrameStart_of outside hclosed rfl
    have measured (k : MeasuredSize) (h : closed = some k) : closed.or s.vc.lastMeasured = some k := by rw [h]; rfl
    have unmeasured (h : closed = none) : closed.or s.vc.lastMeasured = s.vc.lastMeasured := by rw [h]; rfl
    by_cases ok : ∃ m, closed = some m ∧ m.inRange = true
    · obtain ⟨m, hm, range⟩ := ok
      have bad : ¬ ∀ k, closed = some k → k.inRange = false := fun none => by simp [none m hm] at range
      have only (k : MeasuredSize) (h : closed = some k) : k = m := Option.some.inj (h.symm.trans hm)
      cases lock : s.vc.lock with
      | locked =>
        refine ⟨_, (valid m hm range).1 lock, ?_, fun k h => ?_, fun h => ?_, fun k h _ => ?_, fun none => absurd none bad⟩
        · rw [State.frameStart_vc]; rfl
        · rw [State.frameStart_vc]; exact measured k h
        · rw [State.frameStart_vc]; exact unmeasured h
        · obtain rfl := only k h
          rw [State.frameStart_vc]
          exact ⟨lock, rfl, rfl, rfl, (nomatch ·)⟩
      | lost =>
        refine ⟨_, (valid m hm range).2 lock, ?_, fun k h => ?_, fun h => ?_, fun k h _ => ?_, fun none => absurd none bad⟩
        · rw [State.frameStart_vc]; rfl
        · rw [State.frameStart_vc]; exact measured k h
        · rw [State.frameStart_vc]; exact unmeasured h
        · obtain rfl := only k h
          rw [State.frameStart_vc]
          exact ⟨rfl, rfl, rfl, rfl, fun _ => ⟨rfl, rfl, fun src => State.raised_frameStart _ _ _ src⟩⟩
    · have none : ∀ k, closed = some k → k.inRange = false := by
        simpa using ok
      have bad (k : MeasuredSize) (h : closed = some k) : k.inRange ≠ true := by simp [none k h]
      cases lock : s.vc.lock with
      | locked =>
        refine ⟨_, (invalid none).1 lock, ?_, fun k h => ?_, fun h => ?_, fun k h range => absurd range (bad k h),
          fun _ => ?_⟩
        · rw [State.frameStart_vc]; rfl
        · rw [State.frameStart_vc]; exact measured k h
        · rw [State.frameStart_vc]; exact unmeasured h
        · rw [State.frameStart_vc]
          exact ⟨lock, rfl, rfl, rfl, rfl, (nomatch ·)⟩
      | lost =>
        exact ⟨_, (invalid none).2 lock, rfl, measured, unmeasured, fun k h range => absurd range (bad k h),
          fun _ => ⟨lock, rfl, rfl, rfl, rfl, fun _ => ⟨rfl, rfl, rfl, rfl⟩⟩⟩
  · obtain ⟨vc, pt, sl, ps, still⟩ := s.scMillisecond_blocks
    rw [hu]
    refine ⟨?_, vc, pt, sl, ps, still⟩
    rw [exec_lossTimerExpiry_of outside, VideoCompositor.lossDue_eq_true locked last, if_pos rfl,
      State.vcMillisecond_of_last (by rw [vc, locked]) (by rw [vc, last]), vc]
  · obtain ⟨vc, -⟩ := s.scMillisecond_blocks
    refine ⟨s.scMillisecond.vcMillisecond, ?_, exec_timebaseMillisecond_of outside, ?_⟩
    · rw [exec_lossTimerExpiry_of outside, VideoCompositor.lossDue_eq_true locked last, if_pos rfl]
    · rw [State.vcMillisecond_of_last (by rw [vc, locked]) (by rw [vc, last])]
      refine ⟨?_, ?_, ?_, ?_, ?_, fun src => State.raised_frameStart _ _ _ src⟩
      · rw [State.frameStart_vc]; rfl
      · rw [State.frameStart_vc]; rfl
      · rw [State.frameStart_vc]; rfl
      · have width : s.scMillisecond.vc.width = s.vc.width := by rw [vc]
        rw [State.frameStart_vc]; exact width
      · have height : s.scMillisecond.vc.height = s.vc.height := by rw [vc]
        rw [State.frameStart_vc]; exact height
  · obtain ⟨vc, -⟩ := s.scMillisecond_blocks
    have notDue : s.vc.lossDue = false := VideoCompositor.lossDue_eq_false fun _ k hk => by
      rw [timer] at hk
      obtain rfl := Option.some.inj hk
      exact more
    refine ⟨by rw [exec_lossTimerExpiry_of outside, notDue]; rfl, _, exec_timebaseMillisecond_of outside, ?_⟩
    rw [State.vcMillisecond_of_not_due (by rw [vc, notDue]), vc]
    refine ⟨locked, ?_⟩
    show (if s.vc.lock = .locked then s.vc.lossTimer.map (fun n => n - 1) else s.vc.lossTimer) = some (n - 1)
    rw [if_pos locked, timer]
    rfl
  · obtain ⟨vc, -⟩ := s.scMillisecond_blocks
    rw [State.vcMillisecond_measurement, vc]
  · rintro m lines width closed hwidth rfl
    obtain ⟨elapsed, count, first, uniform⟩ := Measurement.foldl_line lines m width hwidth
    refine ⟨first, count, ?_⟩
    rw [Measurement.close_inRange, elapsed, count, first, uniform]

end Sys2Proof.Machine
end

section
/-! PROOFS. Records and frames of records at the Song Loader (chapter 3), written out. -/

namespace Sys2Proof.Machine

/-! ### The checks of a record (R60) -/

theorem ite_reason_eq_none {p : Prop} [Decidable p] {why : FailReason} {rest : Option FailReason} :
    (if p then some why else rest) = none ↔ ¬ p ∧ rest = none := by
  by_cases hp : p <;> simp [hp]

/-- A check in a list of checks, the first of which to fail gives the reason. -/
theorem ite_reason_eq_find {p q : Prop} [Decidable p] [Decidable q] (same : p ↔ q) (why : FailReason)
    {rest : Option FailReason} {checks : List (Bool × FailReason)}
    (h : rest = (checks.find? (fun c => c.1)).map (fun c => c.2)) :
    (if p then some why else rest) = (((decide q, why) :: checks).find? (fun c => c.1)).map (fun c => c.2) := by
  by_cases hq : q
  · rw [if_pos (same.2 hq)]; simp [hq]
  · rw [if_neg (mt same.1 hq)]; simpa [hq] using h

theorem maxTime_eq : Config.maxTime = 1199999 := rfl

/-- A time before the latest of its kind, if there is one. -/
theorem lt_getD_iff (n : Nat) (last : Option Nat) : n < last.getD 0 ↔ ∃ t ∈ last, n < t := by
  cases last <;> simp

theorem LoadTracking.lt_noteEnd_iff (k : LoadTracking) (start : Nat) (part : PartTag) :
    start < k.noteEnd part ↔ (part ≠ .p2 ∧ start < k.noteEndP1) ∨ (part ≠ .p1 ∧ start < k.noteEndP2) := by
  cases part <;> simp [LoadTracking.noteEnd]

theorem LoadTracking.checkLine_eq_none_iff (k : LoadTracking) (number start stop syllables : Nat) :
    k.checkLine number start stop syllables = none ↔
      k.expected = 0 ∧ 1 ≤ syllables ∧ syllables ≤ 48 ∧ number = k.lastLine + 1 ∧ number ≤ 512
        ∧ start ≤ 1199999 ∧ stop ≤ 1199999 ∧ start < stop ∧ stop ≤ start + 60000 ∧ k.lineStart ≤ start := by
  have := maxTime_eq
  simp only [LoadTracking.checkLine, ite_reason_eq_none, and_true]
  omega

theorem LoadTracking.checkSyl_eq_none_iff (k : LoadTracking) (offset : Nat) :
    k.checkSyl offset = none ↔ k.lastLine ≠ 0 ∧ k.expected ≠ 0 ∧ k.lineStart + offset < k.lineStop
      ∧ ∀ t, k.lastSyllable = some t → t ≤ k.lineStart + offset := by
  have order : ¬ k.lineStart + offset < k.lastSyllable.getD 0
      ↔ ∀ t, k.lastSyllable = some t → t ≤ k.lineStart + offset := by
    rw [lt_getD_iff]
    simp
  simp only [LoadTracking.checkSyl, ite_reason_eq_none, order, and_true]
  have inside : ¬ k.lineStop - k.lineStart ≤ offset ↔ k.lineStart + offset < k.lineStop := by omega
  rw [inside]

theorem LoadTracking.checkNote_eq_none_iff (k : LoadTracking) (start duration : Nat) (part : PartTag) :
    k.checkNote start duration part = none ↔
      start ≤ 1199999 ∧ start + duration ≤ 1199999 ∧ (∀ t, k.lastNote = some t → t ≤ start)
        ∧ (part ≠ .p2 → k.noteEndP1 ≤ start) ∧ (part ≠ .p1 → k.noteEndP2 ≤ start) := by
  have order : ¬ start < k.lastNote.getD 0 ↔ ∀ t, k.lastNote = some t → t ≤ start := by
    rw [lt_getD_iff]
    simp
  have parts : ¬ start < k.noteEnd part ↔ (part ≠ .p2 → k.noteEndP1 ≤ start) ∧ (part ≠ .p1 → k.noteEndP2 ≤ start) := by
    rw [k.lt_noteEnd_iff]
    simp only [not_or, not_and, Nat.not_lt]
  rw [LoadTracking.checkNote, ite_reason_eq_none, ite_reason_eq_none, ite_reason_eq_none, order, parts]
  simp only [maxTime_eq, not_or, Nat.not_lt, and_true, and_assoc]

theorem LoadTracking.checkMark_eq_none_iff (k : LoadTracking) (kind : MarkKind) (time : Nat) :
    k.checkMark kind time = none ↔ time ≤ 1199999
      ∧ (kind = .finish → k.expected = 0 ∧ time ≠ 0 ∧ k.latestLineEnd ≤ time ∧ k.noteEndP1 ≤ time ∧ k.noteEndP2 ≤ time) := by
  have := maxTime_eq
  unfold LoadTracking.checkMark
  by_cases finish : kind = .finish
  · rw [if_pos finish]
    simp only [ite_reason_eq_none, finish, true_implies, and_true]
    omega
  · rw [if_neg finish]
    simp only [ite_reason_eq_none, finish, false_implies, and_true]
    omega

/-- The checks in R60's order, as lists. -/
theorem LoadTracking.check_eq_find (k : LoadTracking) (first : List (Bool × FailReason) → Option FailReason)
    (hfirst : ∀ checks, first checks = (checks.find? (fun c => c.1)).map (fun c => c.2)) :
    (∀ (number start stop : Nat) (part : PartTag) (syllables : Nat),
      k.check (.line number start stop part syllables)
        = first
            [(decide (k.expected ≠ 0), .sylCount), (decide (syllables < 1 ∨ 48 < syllables), .sylCount),
              (decide (number ≠ k.lastLine + 1 ∨ 512 < number), .lineOrder),
              (decide (1199999 < start ∨ 1199999 < stop), .timeRange),
              (decide (stop ≤ start ∨ start + 60000 < stop ∨ start < k.lineStart), .lineOrder)])
    ∧ (∀ (offset duration : Nat) (glyphs : List Nat),
        k.check (.syl offset duration glyphs)
          = first
              [(decide (k.lastLine = 0), .sylOrphan), (decide (k.expected = 0), .sylCount),
                (decide (k.lineStop - k.lineStart ≤ offset), .sylRange),
                (decide (∃ t ∈ k.lastSyllable, k.lineStart + offset < t), .sylRange)])
    ∧ (∀ (start duration number : Nat) (part : PartTag),
        k.check (.note start duration number part)
          = first
              [(decide (1199999 < start ∨ 1199999 < start + duration), .timeRange),
                (decide (∃ t ∈ k.lastNote, start < t), .noteOrder),
                (decide ((part ≠ .p2 ∧ start < k.noteEndP1) ∨ (part ≠ .p1 ∧ start < k.noteEndP2)), .noteOrder)])
    ∧ (∀ time : Nat,
        k.check (.mark .finish time)
          = first
              [(decide (k.expected ≠ 0), .sylCount), (decide (1199999 < time), .timeRange),
                (decide (time = 0 ∨ time < k.latestLineEnd ∨ time < k.noteEndP1 ∨ time < k.noteEndP2), .endEarly)])
    ∧ ∀ (kind : MarkKind) (time : Nat), kind ≠ .finish →
        k.check (.mark kind time) = first [(decide (1199999 < time), .timeRange)] := by
  simp only [hfirst]
  refine ⟨fun number start stop part syllables => ?_, fun offset duration glyphs => ?_,
    fun start duration number part => ?_, fun time => ?_, fun kind time other => ?_⟩
  · exact ite_reason_eq_find Iff.rfl _ (ite_reason_eq_find Iff.rfl _ (ite_reason_eq_find Iff.rfl _
      (ite_reason_eq_find Iff.rfl _ (ite_reason_eq_find Iff.rfl _ rfl))))
  · exact ite_reason_eq_find Iff.rfl _ (ite_reason_eq_find Iff.rfl _ (ite_reason_eq_find Iff.rfl _
      (ite_reason_eq_find (lt_getD_iff _ _) _ rfl)))
  · exact ite_reason_eq_find Iff.rfl _ (ite_reason_eq_find (lt_getD_iff _ _) _
      (ite_reason_eq_find (k.lt_noteEnd_iff _ _) _ rfl))
  · rw [LoadTracking.check, LoadTracking.checkMark, if_pos rfl]
    exact ite_reason_eq_find Iff.rfl _ (ite_reason_eq_find Iff.rfl _ (ite_reason_eq_find Iff.rfl _ rfl))
  · rw [LoadTracking.check, LoadTracking.checkMark, if_neg other]
    exact ite_reason_eq_find Iff.rfl _ rfl

/-! ### Decoding a record (R170) -/

theorem take_drop_eq_map {raw : List Byte} {place size : Nat} (h : place + size ≤ raw.length) :
    (raw.drop place).take size = (List.range size).map (fun i => raw.getD (place + i) 0#8) := by
  refine List.ext_getElem (by simp; omega) fun i h1 h2 => ?_
  have bound : place + i < raw.length := by
    simp only [List.length_map, List.length_range] at h2
    omega
  simp [bound]

/-- A field of one to three bytes, in the byte order of the load. -/
theorem recordField_eq {raw : List Byte} (order : ByteOrder) {place size : Nat} (h : place + size ≤ raw.length)
    (small : size = 1 ∨ size = 2 ∨ size = 3) :
    recordField order raw place size
      = ((List.range size).map (fun i =>
          (raw.getD (place + i) 0#8).toNat * 256 ^ (if order = .little then i else size - 1 - i))).sum := by
  unfold recordField
  rw [take_drop_eq_map h]
  obtain rfl | rfl | rfl := small <;> cases order <;> simp [List.range_succ, beValue] <;> omega

theorem partTagOf_eq (n : Nat) : partTagOf n = [none, some PartTag.p1, some .p2, some .both].getD n none := by
  match n with
  | 0 | 1 | 2 | 3 => rfl
  | n + 4 => rfl

theorem markKindOf_eq (n : Nat) :
    markKindOf n = [none, some MarkKind.verse, some .chorus, some .bridge, some .interlude, some .finish].getD n none := by
  match n with
  | 0 | 1 | 2 | 3 | 4 | 5 => rfl
  | n + 6 => rfl

/-! ### Clamping (R61) -/

theorem changed_clampNat {lo hi : Nat} (n : Nat) (h : lo ≤ hi) :
    changed n (clampNat lo hi n) = if n < lo ∨ hi < n then 1 else 0 := by
  unfold changed clampNat
  split <;> split <;> omega

/-! ### One record stored (R54, R56) -/

theorem Load.applyRecord_of_ended {l : Load} (h : l.tracking.ended = true) (raw : List Byte) :
    l.applyRecord raw = (l, some .extra) := if_pos h

theorem Load.applyRecord_of_undecoded {l : Load} {raw : List Byte} (open' : l.tracking.ended = false)
    (h : decodeRecord l.order raw = none) : l.applyRecord raw = (l, some .badRecord) := by
  rw [Load.applyRecord, if_neg (by simp [open']), h]

theorem Load.applyRecord_of_decoded {l : Load} {raw : List Byte} {r : RawRecord} (open' : l.tracking.ended = false)
    (h : decodeRecord l.order raw = some r) :
    (∀ why, l.tracking.check r.clamp.1 = some why →
      l.applyRecord raw = ({ l with clamps := min 12288 (l.clamps + r.clamp.2) }, some why))
    ∧ (l.tracking.check r.clamp.1 = none →
        (6144 ≤ l.records.length →
          l.applyRecord raw = ({ l with clamps := min 12288 (l.clamps + r.clamp.2) }, some .tooLong))
        ∧ (l.records.length < 6144 →
            l.applyRecord raw = (Load.store { l with clamps := min 12288 (l.clamps + r.clamp.2) } r.clamp.1, none))) := by
  rw [Load.applyRecord, if_neg (by simp [open']), h]
  dsimp only
  refine ⟨fun why hwhy => ?_, fun passes => ⟨fun full => ?_, fun room => ?_⟩⟩
  · rw [hwhy]; rfl
  · rw [passes]; exact if_pos full
  · rw [passes]; exact if_neg (Nat.not_le.2 room)

/-- END is the record after which a load is ended. -/
theorem LoadTracking.ended_after {k : LoadTracking} (h : k.ended = false) (r : CueRecord) :
    (k.after r).ended = true ↔ ∃ t, r = .mark .finish t := by
  cases r with
  | mark kind t => simp [LoadTracking.after]
  | _ => simp [LoadTracking.after, h]

/-- A record that does not fail is stored. -/
theorem Load.applyRecord_stored {l m : Load} {raw : List Byte} (h : l.applyRecord raw = (m, none)) :
    ∃ r, m.records = l.records ++ [r] ∧ (m.tracking.ended = true ↔ ∃ t, r = .mark .finish t) := by
  cases open' : l.tracking.ended with
  | true => rw [Load.applyRecord_of_ended open'] at h; cases h
  | false =>
    cases decoded : decodeRecord l.order raw with
    | none => rw [Load.applyRecord_of_undecoded open' decoded] at h; cases h
    | some r =>
      obtain ⟨fails, passes⟩ := Load.applyRecord_of_decoded open' decoded
      cases check : l.tracking.check r.clamp.1 with
      | some why => rw [fails why check] at h; cases h
      | none =>
        obtain ⟨full, room⟩ := passes check
        by_cases places : 6144 ≤ l.records.length
        · rw [full places] at h; cases h
        · rw [room (Nat.lt_of_not_le places)] at h
          cases h
          exact ⟨_, rfl, LoadTracking.ended_after open' _⟩

/-! ### A frame of records (R53, R55, R57) -/

theorem flatten_chunks (count size : Nat) : ∀ bytes : List Byte, bytes.length = size * count →
    ((List.range count).map (fun j => (bytes.drop (size * j)).take size)).flatten = bytes := by
  induction count with
  | zero =>
    intro bytes h
    simpa using (List.length_eq_zero_iff.1 (by simpa using h)).symm
  | succ count ih =>
    intro bytes h
    have rest := ih (bytes.drop size) (by rw [List.length_drop, h, Nat.mul_succ]; omega)
    rw [List.range_succ_eq_map, List.map_cons, List.flatten_cons, List.map_map]
    have later : ((fun j => (bytes.drop (size * j)).take size) ∘ Nat.succ)
        = fun j => ((bytes.drop size).drop (size * j)).take size := by
      funext j
      simp [Nat.mul_succ, Nat.add_comm]
    rw [later, rest]
    simp

theorem recordsOf_spec {bytes : List Byte} (h : bytes.length % 16 = 0) :
    (recordsOf bytes).flatten = bytes ∧ ∀ raw ∈ recordsOf bytes, raw.length = 16 := by
  refine ⟨flatten_chunks _ 16 bytes (by omega), fun raw hraw => ?_⟩
  obtain ⟨j, hj, rfl⟩ := List.mem_map.1 hraw
  rw [List.mem_range] at hj
  rw [List.length_take, List.length_drop]
  omega

theorem Load.applyFrame_of_failed {l m : Load} {raw : List Byte} {why : FailReason} (h : l.applyRecord raw = (m, some why))
    (k : Nat) (rest : List (List Byte)) : l.applyFrame k (raw :: rest) = ⟨m, k, .failed why, false⟩ := by
  rw [Load.applyFrame, h]

theorem Load.applyFrame_of_stored {l m : Load} {raw : List Byte} (h : l.applyRecord raw = (m, none)) (k : Nat)
    (rest : List (List Byte)) :
    l.applyFrame k (raw :: rest)
      = if m.remaining = some 0 then
          ⟨m, k + 1, if m.tracking.ended then .complete else .failed .noEnd, !rest.isEmpty⟩
        else m.applyFrame (k + 1) rest := by
  rw [Load.applyFrame, h]

/-- The record that brings the count to 0 ends the load. -/
theorem Load.applyFrame_of_last {l m : Load} {raw : List Byte} (h : l.applyRecord raw = (m, none)) (k : Nat)
    (rest : List (List Byte)) (last : m.remaining = some 0) :
    (∀ t, m.records.getLast? = some (.mark .finish t) →
      l.applyFrame k (raw :: rest) = ⟨m, k + 1, .complete, !rest.isEmpty⟩)
    ∧ ((∀ t, m.records.getLast? ≠ some (.mark .finish t)) →
        l.applyFrame k (raw :: rest) = ⟨m, k + 1, .failed .noEnd, !rest.isEmpty⟩) := by
  obtain ⟨r, stored, ended⟩ := Load.applyRecord_stored h
  have final : m.records.getLast? = some r := by rw [stored, List.getLast?_concat]
  rw [Load.applyFrame_of_stored h, if_pos last, final]
  refine ⟨fun t ht => ?_, fun none => ?_⟩
  · rw [if_pos (ended.2 ⟨t, Option.some.inj ht⟩)]
  · rw [if_neg]
    rw [ended]
    rintro ⟨t, rfl⟩
    exact none t rfl

/-- Records are left over only where the count ended the load. -/
theorem Load.overrun_of_going (raws : List (List Byte)) : ∀ (l : Load) (k : Nat),
    (l.applyFrame k raws).ending = .going → (l.applyFrame k raws).overrun = false := by
  induction raws with
  | nil => exact fun _ _ _ => rfl
  | cons raw rest ih =>
    intro l k going
    rcases h : l.applyRecord raw with ⟨m, _ | why⟩
    · rw [Load.applyFrame_of_stored h] at going ⊢
      by_cases last : m.remaining = some 0
      · rw [if_pos last] at going
        cases ended : m.tracking.ended <;> simp [ended] at going
      · rw [if_neg last] at going ⊢
        exact ih m (k + 1) going
    · rw [Load.applyFrame_of_failed h] at going
      cases going

theorem loadDataPayload_eq (n : SlotName) (r : FrameResult) :
    loadDataPayload n r
      = encSlotName n ++ be1 r.accepted ++ encSlotState (r.load.slotAfter r.ending) ++ encFailReason r.ending.reason
        ++ be2 r.load.records.length ++ be2 (r.load.remaining.getD 0xFFFF) ++ be2 r.load.clamps := rfl

theorem exec_loadDataEnd_of {s : State} {n : SlotName} {bytes : List Byte} {l : Load} (outside : s.inReset = false)
    (inFlight : s.sl.inFlight = some ⟨n, bytes⟩) (loading : s.sl.get n = .loading l) {r : FrameResult}
    (hr : l.applyFrame 0 (recordsOf bytes) = r) :
    exec .loadDataEnd s
      = .next (((s.withSl { s.sl.set n (r.load.slotAfter r.ending) with inFlight := none }).loadDone r.ending).answer
          .player .loadData ⟨if r.overrun then .overrun else .ok, {}, loadDataPayload n r⟩) := by
  refine congrArg Host.Outcome.next ((State.outsideReset_of outside State.endLoadData).trans ?_)
  rw [State.endLoadData, inFlight]
  dsimp only
  rw [loading, ← hr]

/-- Settles O34: LOAD-DATA at its port, its end by how the load ended, and a frame record by record. -/
theorem loadDataBeginsAndEnds : Obligations.LoadDataBeginsAndEnds := by
  unfold Obligations.LoadDataBeginsAndEnds
  refine ⟨fun src bytes s h whole low high => ?_, fun s n bytes l r outside inFlight loading hr => ?_,
    fun bytes h => recordsOf_spec h, fun l m k raw rest => ⟨rfl, fun why h => Load.applyFrame_of_failed h k rest,
      fun h => ⟨fun more => ?_, Load.applyFrame_of_last h k rest⟩⟩, ?_⟩
  · have ok : loadDataLength bytes.length = true := by
      simp only [loadDataLength, Bool.and_eq_true, beq_iff_eq, decide_eq_true_eq]
      omega
    have taken : exec (.loadData src bytes) s = .next ((s.route src .loadData).slLoadData src bytes) := by
      refine congrArg Host.Outcome.next (Eq.trans ?_ (State.command_of_accepts h (State.slLoadData src bytes)))
      rw [ok]
    refine ⟨fun noLoad => ?_, fun n l loading => ?_⟩
    · rw [taken, State.slLoadData, State.route_sl, SongLoader.loadingSlot_eq_none_iff.2 noLoad]; rfl
    · rw [taken, State.slLoadData, State.route_sl, loading]
  · have ends := exec_loadDataEnd_of outside inFlight loading hr
    refine ⟨fun going => ?_, fun complete => ?_, fun why failed => ?_⟩
    · have notOver : r.overrun = false := by
        rw [← hr] at going ⊢
        exact Load.overrun_of_going _ _ _ going
      rw [ends, going, notOver]
      rfl
    · rw [ends, complete]; rfl
    · rw [ends, failed]; rfl
  · rw [Load.applyFrame_of_stored h, if_neg more]
  · rintro n ⟨load, accepted, ending, overrun⟩
    cases n <;> (cases ending <;> [rfl; rfl; (rename_i why; cases why <;> rfl)])

/-! ### A record decoded and stored (R51, R54, R170) -/

theorem PartIndex.note_eq {joined : PartIndex → PartIndex} {number : Nat}
    (h : ∀ x, joined x = ⟨x.count + 1, some (match x.range with
      | none => (number, number)
      | some (low, high) => (min low number, max high number))⟩) : joined = fun x => x.note number := by
  funext ⟨count, range⟩
  rw [h]
  cases range <;> rfl

/-- The kind byte is the same in both byte orders. -/
theorem recordField_kind (order : ByteOrder) {raw : List Byte} (length : raw.length = 16) :
    recordField order raw 0 1 = beValue (raw.take 1) := by
  match raw, length with
  | b :: _, _ => cases order <;> rfl

theorem decodeRecord_of_line {order : ByteOrder} {raw : List Byte} (h : beValue (raw.take 1) = 1) :
    decodeRecord order raw = (partTagOf (recordField order raw 9 1)).map fun part =>
      .line (recordField order raw 1 2) (recordField order raw 3 3) (recordField order raw 6 3) part
        (recordField order raw 10 1) := by
  simp only [decodeRecord, h]

theorem decodeRecord_of_syl {order : ByteOrder} {raw : List Byte} (h : beValue (raw.take 1) = 2) :
    decodeRecord order raw = some (.syl (recordField order raw 1 2) (recordField order raw 3 2)
      (recordField order raw 5 1) [recordField order raw 6 2 % 1024, recordField order raw 8 2 % 1024,
        recordField order raw 10 2 % 1024, recordField order raw 12 2 % 1024, recordField order raw 14 2 % 1024]) := by
  simp only [decodeRecord, h]
  rfl

theorem decodeRecord_of_note {order : ByteOrder} {raw : List Byte} (h : beValue (raw.take 1) = 3) :
    decodeRecord order raw = (partTagOf (recordField order raw 7 1)).map fun part =>
      .note (recordField order raw 1 3) (recordField order raw 4 2) (recordField order raw 6 1) part := by
  simp only [decodeRecord, h]

theorem decodeRecord_of_mark {order : ByteOrder} {raw : List Byte} (h : beValue (raw.take 1) = 4) :
    decodeRecord order raw
      = (markKindOf (recordField order raw 1 1)).map fun kind => .mark kind (recordField order raw 2 3) := by
  simp only [decodeRecord, h]

theorem decodeRecord_of_unlisted {order : ByteOrder} {raw : List Byte}
    (h : beValue (raw.take 1) = 0 ∨ 4 < beValue (raw.take 1)) : decodeRecord order raw = none := by
  rw [decodeRecord]
  split
  case h_5 => rfl
  all_goals omega

/-- Settles O36: the checks as conditions and as lists, the record stored by its kind, and the record decoded. -/
theorem recordsAreCheckedAndStored : Obligations.RecordsAreCheckedAndStored := by
  unfold Obligations.RecordsAreCheckedAndStored
  refine ⟨fun k => ⟨fun number start stop _ syllables => k.checkLine_eq_none_iff number start stop syllables,
      fun offset _ _ => k.checkSyl_eq_none_iff offset, fun start duration _ part => k.checkNote_eq_none_iff start duration part,
      k.checkMark_eq_none_iff⟩,
    fun l raw => ⟨fun ended => Load.applyRecord_of_ended ended raw, fun open' =>
      ⟨fun undecoded => Load.applyRecord_of_undecoded open' undecoded, fun r decoded => ?_⟩⟩,
    LoadTracking.check_eq_find, fun order raw field length hfield => ?_, fun dur num count offset start codes part => ⟨?_, ?_⟩⟩
  · obtain ⟨fails, passes⟩ := Load.applyRecord_of_decoded open' decoded
    refine ⟨fails, fun check => ⟨(passes check).1, fun room => ?_⟩⟩
    rw [(passes check).2 room]
    refine ⟨rfl, rfl, rfl, rfl, rfl, rfl, LoadTracking.ended_after open' _, fun number start stop part syllables hr => ?_,
      fun offset duration glyphs hr => ?_, fun start duration number part joined hr hjoined => ?_, fun kind time hr => ?_⟩
    · rw [hr]; exact ⟨rfl, rfl⟩
    · rw [hr]; exact ⟨rfl, rfl⟩
    · rw [hr, PartIndex.note_eq hjoined]
      cases part <;> exact ⟨rfl, rfl⟩
    · rw [hr]
      refine ⟨rfl, ?_⟩
      by_cases finish : kind = .finish
      · simp [Load.store, DerivedIndex.after, finish]
      · simp [Load.store, DerivedIndex.after, finish]
  · have read {place size : Nat} (h : place + size ≤ 16) (small : size = 1 ∨ size = 2 ∨ size = 3) :
        field place size = recordField order raw place size := by
      rw [hfield, recordField_eq order (by omega) small]
    have kind : field 0 1 = beValue (raw.take 1) := by
      rw [read (by omega) (.inl rfl), recordField_kind order length]
    simp only [kind]
    refine ⟨fun part line hpart => ?_, fun syl => ?_, fun part note hpart => ?_, fun tag mark htag => ?_,
      decodeRecord_of_unlisted⟩
    · rw [decodeRecord_of_line line, hpart, ← partTagOf_eq]
      simp only [read, Nat.reduceAdd, Nat.reduceLeDiff, true_or, or_true]
    · rw [decodeRecord_of_syl syl]
      simp only [read, Nat.reduceAdd, Nat.reduceLeDiff, true_or, or_true]
    · rw [decodeRecord_of_note note, hpart, ← partTagOf_eq]
      simp only [read, Nat.reduceAdd, Nat.reduceLeDiff, true_or, or_true]
    · rw [decodeRecord_of_mark mark, htag, ← markKindOf_eq]
      simp only [read, Nat.reduceAdd, Nat.reduceLeDiff, true_or, or_true]
  · rw [RawRecord.clamp, changed_clampNat dur (by omega), changed_clampNat num (by omega)]
    rfl
  · rw [RawRecord.clamp, changed_clampNat dur (by omega), changed_clampNat count (by omega)]
    rfl

end Sys2Proof.Machine
end

section
/-! PROOFS. Every invariant in the state that reset leaves (R181). -/

namespace Sys2Proof.Machine

/-- At the end of reset the QM is empty and idle, the slots are EMPTY and the Player has no work in hand. -/
theorem State.linked_atEndOfReset (copy : Option Profile) : (State.atEndOfReset copy).linked := by
  have empty (n : SlotName) : (State.atEndOfReset copy).sl.get n = .empty := by cases n <;> rfl
  refine fun _ => ⟨⟨rfl, rfl, rfl⟩, .inl rfl, Nat.zero_le _, fun n g playing => ?_, (List.forall_mem_nil _), fun n t ticket => ?_,
    fun t ticket => nomatch ticket⟩
  · rw [empty] at playing; nomatch playing
  · rw [empty] at ticket; nomatch ticket

theorem QueueManager.wellKept_afterReset : QueueManager.afterReset.wellKept := by
  simp [QueueManager.wellKept, QueueManager.afterReset]

theorem QueueManager.inOrder_afterReset : QueueManager.afterReset.inOrder := by
  simp [QueueManager.inOrder, QueueManager.afterReset]

theorem QueueManager.waitsInOrder_afterReset : QueueManager.afterReset.waitsInOrder :=
  ⟨fun _ => ⟨rfl, rfl, rfl⟩, fun _ waits => nomatch waits⟩

theorem LyricRenderer.sound_afterReset : LyricRenderer.afterReset.sound := by
  simp [LyricRenderer.sound, LyricRenderer.afterReset, glyphTableWf]

theorem State.sound_atEndOfReset {copy : Option Profile} (h : ∀ p, copy = some p → p.inRange) :
    (State.atEndOfReset copy).sound :=
  ⟨State.portsConsistent_atEndOfReset copy, QueueManager.wellKept_afterReset, QueueManager.inOrder_afterReset,
    QueueManager.waitsInOrder_afterReset, State.linked_atEndOfReset copy,
    ⟨List.forall_mem_nil _, List.forall_mem_nil _, StageController.clockSound_afterReset⟩, ⟨trivial, trivial⟩,
    PitchTracker.sound_afterReset, ⟨ScoreLane.sound_afterReset, ScoreLane.sound_afterReset⟩,
    State.settingsInRange_atEndOfReset h, LyricRenderer.sound_afterReset, State.lyricRowsFit_of_empty rfl rfl⟩

/-- Settles O4: the state after reset is the end of a reset that found no copy. -/
theorem resetIsSound : Obligations.ResetIsSound := by
  unfold Obligations.ResetIsSound
  exact ⟨State.sound_atEndOfReset (nomatch ·, ·),
    fun p ranges => State.sound_atEndOfReset fun q same => Option.some.inj same ▸ ranges⟩

end Sys2Proof.Machine
end

section
/-! PROOFS. Frame quality, notes and grades (chapter 5, sections 5.3 to 5.6), written out. -/

namespace Sys2Proof.Machine

/-! ### The frame quality (R96 to R98) -/

/-- The deviation used is the plain one, or the one within half an octave on its fold. -/
theorem deviation_eq {fold : Bool} {x d : Int}
    (h : (fold = false ∧ d = x) ∨ (fold = true ∧ -600 ≤ d ∧ d ≤ 599 ∧ ∃ octaves : Int, x = d + 1200 * octaves)) :
    deviation fold x = d := by
  obtain ⟨rfl, rfl⟩ | ⟨rfl, low, high, octaves, rfl⟩ := h
  · rfl
  · simp only [deviation, if_true]
    omega

theorem frameQuality_of_unvoiced {tolerance : Nat} {fold : Bool} {report : PitchReport} {number : Nat}
    (h : report.pitch = none) : frameQuality tolerance fold report number = 0 := by
  rw [frameQuality, h]

theorem frameQuality_of_voiced {tolerance : Nat} {fold : Bool} {report : PitchReport} {number : Nat} {s d : Int}
    (h : report.pitch = some s) (hd : deviation fold (s - 100 * (number + report.key)) = d) :
    frameQuality tolerance fold report number
      = if d.natAbs ≤ tolerance then 8
        else if d.natAbs < 2 * tolerance then 8 * (2 * tolerance - d.natAbs) / tolerance else 0 := by
  rw [frameQuality, h, ← hd]

/-- Settles O49: the deviation, then the three ranges it falls in. -/
theorem frameQualityFalls : Obligations.FrameQualityFalls := by
  unfold Obligations.FrameQualityFalls
  refine fun tolerance fold report number s d => ⟨frameQuality_of_unvoiced, fun voiced hd => ?_⟩
  rw [frameQuality_of_voiced voiced (deviation_eq hd)]
  refine ⟨fun within => if_pos within, fun past below => ?_, fun far positive => ?_⟩
  · rw [if_neg (by omega), if_pos below]
    exact ⟨rfl, Nat.le_of_lt_succ ((Nat.div_lt_iff_lt_mul (by omega)).2 (by omega))⟩
  · rw [if_neg (by omega), if_neg (by omega)]

/-! ### Closing a note (R100 to R102) -/

theorem ScoreLane.close_of_full {k : ScoreLane} {n : OpenNote} (o : k.openNote = some n) (full : k.full n = true) :
    k.close = { k with openNote := none } := by
  rw [ScoreLane.close, o]
  exact if_pos full

theorem ScoreLane.close_of_room {k : ScoreLane} {n : OpenNote} (o : k.openNote = some n) (room : ¬ k.full n = true) :
    k.close =
      { k with
        openNote := none, hitSum := k.hitSum + n.hits, frameCount := k.frameCount + n.frames, graded := k.graded + 1
        counts := k.counts.add n.grade, streak := streakAfter k.streak n.grade
        maxStreak := max k.maxStreak (streakAfter k.streak n.grade)
        recent := appendRecent k.recent (n.start, n.grade) } := by
  rw [ScoreLane.close, o]
  exact if_neg room

theorem GradeCounts.add_eq (c : GradeCounts) (g : Grade) :
    c.add g = ⟨c.perfect + (if g = .perfect then 1 else 0), c.good + (if g = .good then 1 else 0),
      c.fair + (if g = .fair then 1 else 0), c.miss + (if g = .miss then 1 else 0)⟩ := by
  cases g <;> rfl

/-- PERFECT and GOOD are the grades from 70 up. -/
theorem streakAfter_gradeOf (streak accuracy : Nat) :
    streakAfter streak (gradeOf accuracy) = if 70 ≤ accuracy then streak + 1 else 0 := by
  by_cases good : 70 ≤ accuracy
  · rw [if_pos good, gradeOf, if_pos good]
    split <;> rfl
  · rw [if_neg good, gradeOf, if_neg (by omega), if_neg good]
    split <;> rfl

theorem appendRecent_eq (r : List (Nat × Grade)) (p : Nat × Grade) :
    appendRecent r p = (r ++ [p]).drop (if 16 ≤ r.length then 1 else 0) := by
  rw [appendRecent]
  split
  · next long =>
    rw [List.drop_append_of_le_length (by omega), List.drop_one]
  · rfl

/-! ### The active note and the scored report (R94, R95, R99) -/

theorem partApplies_iff (mode : SongMode) (l : Lane) (part : PartTag) :
    partApplies mode l part = true ↔ mode = .solo ∨ part = .both ∨ part = if l = .zero then .p1 else .p2 := by
  cases mode with
  | solo => simp [partApplies]
  | duet => cases l <;> cases part <;> decide

theorem NoteAt.candidateFor_iff (n : NoteAt) (mode : SongMode) (l : Lane) (t : Nat) :
    n.candidateFor mode l t = true
      ↔ n.start ≤ t ∧ t < n.start + n.duration
        ∧ (mode = .solo ∨ n.part = .both ∨ n.part = if l = .zero then .p1 else .p2) := by
  rw [NoteAt.candidateFor, Bool.and_eq_true, Bool.and_eq_true, decide_eq_true_eq, decide_eq_true_eq, partApplies_iff,
    and_assoc]

theorem candidates_eq (notes : List NoteAt) (mode : SongMode) (l : Lane) (t : Nat) :
    notes.filter (fun n => n.candidateFor mode l t)
      = notes.filter (fun n => decide (n.start ≤ t ∧ t < n.start + n.duration
          ∧ (mode = .solo ∨ n.part = .both ∨ n.part = (if l = .zero then .p1 else .p2)))) :=
  List.filter_congr fun n _ => by
    rw [Bool.eq_iff_iff, n.candidateFor_iff, decide_eq_true_eq]

/-- The P1 note of the candidates, and otherwise the first of them. -/
theorem first_of_candidates {candidates : List NoteAt} {n : NoteAt}
    (h : candidates.find? (fun m => m.part == .p1) = some n
      ∨ ((∀ m ∈ candidates, m.part ≠ .p1) ∧ candidates.head? = some n)) :
    (candidates.find? (fun m => m.part == .p1)).or candidates.head? = some n := by
  obtain found | ⟨lacking, head⟩ := h
  · rw [found, Option.some_or]
  · rw [List.find?_eq_none.2 fun m hm => by simpa using lacking m hm, Option.none_or, head]

theorem activeNote_of_early {notes : List NoteAt} {mode : SongMode} {l : Lane} {t r : Nat} {n : NoteAt}
    (h : laneNote notes mode l t = some n) (early : n.start < r) : activeNote notes mode l t (some r) = none := by
  rw [activeNote, h, Option.filter_some, if_neg (by simpa using early)]

theorem activeNote_of_late {notes : List NoteAt} {mode : SongMode} {l : Lane} {t : Nat} {resume : Option Nat} {n : NoteAt}
    (h : laneNote notes mode l t = some n) (late : ∀ r, resume = some r → r ≤ n.start) :
    activeNote notes mode l t resume = some n := by
  rw [activeNote, h, Option.filter_some, if_pos]
  simpa [Option.all_eq_true] using late

/-- No active note: an open note closes, and with none nothing changes. -/
theorem ScoreLane.score_none (k : ScoreLane) (quality : NoteAt → Nat) : k.score none quality = k.close := by
  cases o : k.openNote with
  | none => simp [ScoreLane.score, ScoreLane.leaves, ScoreLane.close, o]
  | some n => simp [ScoreLane.score, ScoreLane.leaves, o]

theorem ScoreLane.score_same {k : ScoreLane} {n : NoteAt} {o : OpenNote} (quality : NoteAt → Nat)
    (h : k.openNote = some o) (same : o.position = n.position) :
    k.score (some n) quality
      = { k with openNote := some { o with frames := o.frames + 1, hits := o.hits + quality n } } := by
  simp [ScoreLane.score, ScoreLane.leaves, OpenNote.count, h, same]

theorem ScoreLane.score_opens {k : ScoreLane} {n : NoteAt} (quality : NoteAt → Nat)
    (h : ∀ o, k.openNote = some o → o.position ≠ n.position) :
    k.score (some n) quality
      = { k.close with openNote := some ⟨n.position, n.start, n.duration, n.number, n.part, 1, quality n⟩ } := by
  have closed : (if k.leaves (some n) then k.close else k) = k.close := by
    cases o : k.openNote with
    | none => simp [ScoreLane.leaves, ScoreLane.close, o]
    | some o' => simp [ScoreLane.leaves, o, (h o' o).symm]
  simp [ScoreLane.score, closed, k.close_openNote, OpenNote.count, NoteAt.opened]

/-- Settles O50: the closing note by the room it finds, the active note by its candidates, the scored report by the open note. -/
theorem noteCloses : Obligations.NoteCloses := by
  unfold Obligations.NoteCloses
  refine ⟨fun k n a g o ha hg => ?_, fun notes candidates mode l t resume hc => ?_,
    fun s g l k heard report active hheard hactive => ?_⟩
  · have grade : n.grade = g := by rw [hg, ha]; rfl
    have streak : streakAfter k.streak n.grade = if 70 ≤ a then k.streak + 1 else 0 := by
      rw [ha]; exact streakAfter_gradeOf _ _
    refine ⟨fun full => k.close_of_full o ((k.full_iff n).2 full), fun room fits => ?_⟩
    rw [k.close_of_room o fun full => by have := (k.full_iff n).1 full; omega, streak, grade]
    exact ⟨rfl, rfl, rfl, rfl, k.counts.add_eq g, rfl, rfl, appendRecent_eq _ _, rfl, rfl⟩
  · have lane : laneNote notes mode l t = (candidates.find? (fun m => m.part == .p1)).or candidates.head? := by
      rw [laneNote, candidates_eq, ← hc]
    refine ⟨fun nothing => ?_, fun n first => ⟨?_, activeNote_of_late (lane.trans (first_of_candidates first))⟩⟩
    · rw [activeNote, lane, nothing]
      rfl
    · rintro ⟨r, rfl, early⟩
      exact activeNote_of_early (lane.trans (first_of_candidates first)) early
  · have scored : s.scoreLane g l k report
        = heard.score active (fun n => frameQuality s.ps.profile.tolerance s.ps.profile.fold report n.number) := by
      rw [hheard, hactive]
      rfl
    have sameNote : heard.openNote = k.openNote := by rw [hheard]
    rw [scored, ← sameNote]
    refine ⟨fun nothing => nothing ▸ heard.score_none _, fun n q found hq => ?_⟩
    rw [found, hq]
    exact ⟨fun o open' same => heard.score_same _ open' same, fun other => heard.score_opens _ other⟩

end Sys2Proof.Machine
end

section
/-! PROOFS. Reception of the microphone input and the completion of an analysis frame (chapter 5, sections 5.1 and 5.2),
written out. -/

namespace Sys2Proof.Machine

/-! ### The receiver, edge by edge (R86) -/

/-- The state with the receiver of the microphone input changed. -/
def State.withReceiver (s : State) (r : I2sReceiver) : State := s.withPt { s.pt with receiver := r }

/-- The 16 bits of a sample, sent the most significant first, spell it. -/
theorem sampleOf_sampleBits (x : Sample) : sampleOf (sampleBits x) = x := by
  have spelt (k : Nat) (hk : k ≤ 16) :
      ((List.range k).map x.getMsbD).foldl (fun n b => 2 * n + b.toNat) 0 = x.toNat / 2 ^ (16 - k) := by
    induction k with
    | zero => exact (Nat.div_eq_of_lt x.isLt).symm
    | succ k ih =>
      have bit : (x.getMsbD k).toNat = x.toNat / 2 ^ (15 - k) % 2 := by
        rw [BitVec.getMsbD, decide_eq_true (by omega : k < 16), Bool.true_and, BitVec.getLsbD, Nat.toNat_testBit]
      have halves : x.toNat / 2 ^ (16 - k) = x.toNat / 2 ^ (15 - k) / 2 := by
        rw [Nat.div_div_eq_div_mul, ← pow_succ, show 15 - k + 1 = 16 - k by omega]
      rw [List.range_succ, List.map_append, List.foldl_append, ih (by omega), List.map_singleton, List.foldl_cons,
        List.foldl_nil, bit, halves, show 16 - (k + 1) = 15 - k by omega]
      omega
  rw [sampleOf, sampleBits, spelt 16 le_rfl]
  exact BitVec.eq_of_toNat_eq (by simp)

/-- Before the first I2S frame an edge at the word clock's level, or the first edge of all, is without effect but for the
level. -/
theorem State.bitClock_unbegun {s : State} {clock : Option Bool} {left : Option Sample} {level : Bool}
    (h : s.pt.receiver = ⟨clock, false, [], left⟩) (same : clock ≠ some (!level)) (b : Bool) :
    s.bitClock ⟨level, b⟩ = s.withReceiver ⟨some level, false, [], left⟩ := by
  have edge : s.pt.receiver.edge ⟨level, b⟩ = (⟨some level, false, [], left⟩, none) := by
    simp [h, I2sReceiver.edge, I2sReceiver.data, same]
  rw [State.bitClock, edge]
  rfl

theorem State.foldl_bitClock_unbegun {s : State} {level : Bool} {left : Option Sample} (bits : List Bool)
    (h : s.pt.receiver = ⟨some level, false, [], left⟩) : (edgesAt level bits).foldl State.bitClock s = s := by
  induction bits with
  | nil => rfl
  | cons b rest ih =>
    rw [edgesAt, List.map_cons, List.foldl_cons, State.bitClock_unbegun h (by simp), State.withReceiver, ← h]
    exact ih

/-- The first change of the word clock to low begins the first I2S frame and latches the stage key (R87; entry 31). -/
theorem State.bitClock_begins {s : State} (h : s.pt.receiver = ⟨some true, false, [], none⟩) (b : Bool) :
    s.bitClock ⟨false, b⟩
      = s.withPt { s.pt with receiver := ⟨some false, true, [], none⟩, latchedKey := s.sc.key } := by
  have edge : s.pt.receiver.edge ⟨false, b⟩ = (⟨some false, true, [], none⟩, none) := by
    simp [h, I2sReceiver.edge, I2sReceiver.data, I2sReceiver.change]
  rw [State.bitClock, edge]
  simp [PitchTracker.received, h]

/-- Once an I2S frame has begun, an edge moves the receiver on, and nothing is sampled where that completes no frame. -/
theorem State.bitClock_of_silent {s : State} {e : BitClockEdge} {r : I2sReceiver} (begun : s.pt.receiver.begun = true)
    (h : s.pt.receiver.edge e = (r, none)) : s.bitClock e = s.withReceiver r := by
  rw [State.bitClock, h, PitchTracker.received_of_begun _ _ _ begun]
  rfl

theorem State.bitClock_of_frame {s : State} {e : BitClockEdge} {r : I2sReceiver} {x : StereoSample}
    (begun : s.pt.receiver.begun = true) (h : s.pt.receiver.edge e = (r, some x)) :
    s.bitClock e = (s.withReceiver r).sample x := by
  rw [State.bitClock, h, PitchTracker.received_of_begun _ _ _ begun]
  rfl

/-- Fewer than 16 bits of a channel join the sample being received. -/
theorem State.foldl_bitClock_receiving {s : State} {level : Bool} {got : List Bool} {left : Option Sample}
    (bits : List Bool) (h : s.pt.receiver = ⟨some level, true, got, left⟩) (few : got.length + bits.length < 16) :
    (edgesAt level bits).foldl State.bitClock s = s.withReceiver ⟨some level, true, got ++ bits, left⟩ := by
  induction bits generalizing s got with
  | nil => rw [List.append_nil, State.withReceiver, ← h]; rfl
  | cons b rest ih =>
    rw [List.length_cons] at few
    have edge : s.pt.receiver.edge ⟨level, b⟩ = (⟨some level, true, got ++ [b], left⟩, none) := by
      have free : ¬ 16 ≤ got.length := by omega
      have short : got.length + 1 ≠ 16 := by omega
      simp [h, I2sReceiver.edge, I2sReceiver.data, free, short]
    have next := ih (s := s.withReceiver ⟨some level, true, got ++ [b], left⟩) (got := got ++ [b]) rfl (by simp; omega)
    rw [edgesAt, List.map_cons, List.foldl_cons, State.bitClock_of_silent (by rw [h]) edge, ← edgesAt, next]
    simp [State.withReceiver]

/-- Bits past the 16th are not part of a sample. -/
theorem State.foldl_bitClock_past {s : State} {level : Bool} {got : List Bool} {left : Option Sample} (bits : List Bool)
    (h : s.pt.receiver = ⟨some level, true, got, left⟩) (full : 16 ≤ got.length) :
    (edgesAt level bits).foldl State.bitClock s = s := by
  induction bits with
  | nil => rfl
  | cons b rest ih =>
    have edge : s.pt.receiver.edge ⟨level, b⟩ = (s.pt.receiver, none) := by
      simp [h, I2sReceiver.edge, I2sReceiver.data, full]
    rw [edgesAt, List.map_cons, List.foldl_cons, State.bitClock_of_silent (by rw [h]) edge]
    exact ih

/-- A change of the word clock after a whole sample begins the other channel's. -/
theorem State.bitClock_change {s : State} {level : Bool} {got : List Bool} {left : Option Sample}
    (h : s.pt.receiver = ⟨some level, true, got, left⟩) (full : got.length = 16) (b : Bool) :
    s.bitClock ⟨!level, b⟩ = s.withReceiver ⟨some (!level), true, [], left⟩ :=
  State.bitClock_of_silent (by rw [h]) (by simp [h, I2sReceiver.edge, I2sReceiver.data, I2sReceiver.change, full])

/-! ### A channel's sample (R86) -/

/-- The bits of one channel up to the change: 15 of them and the last, or the 16 of the sample and more. -/
theorem channel_cases {bits : List Bool} {last : Bool} {x : Sample} (h : (bits ++ [last]).take 16 = sampleBits x) :
    (bits.length = 15 ∧ sampleOf (bits ++ [last]) = x)
      ∨ ∃ front b rest, bits = front ++ b :: rest ∧ front.length = 15 ∧ sampleOf (front ++ [b]) = x := by
  have length : ((bits ++ [last]).take 16).length = 16 := by rw [h]; simp [sampleBits]
  rw [List.length_take, List.length_append, List.length_singleton] at length
  obtain short | long : bits.length = 15 ∨ 15 < bits.length := by omega
  · rw [List.take_of_length_le (by simp [short])] at h
    exact .inl ⟨short, h ▸ sampleOf_sampleBits x⟩
  · refine .inr ⟨bits.take 15, bits[15], bits.drop 16, ?_, by simp; omega, ?_⟩
    · rw [← List.drop_eq_getElem_cons long, List.take_append_drop]
    · rw [List.take_append_of_le_length (by omega), ← List.take_concat_get' bits 15 long] at h
      rw [h, sampleOf_sampleBits]

/-- The left channel's half of a frame leaves its sample. -/
theorem State.foldl_bitClock_left {s : State} {bits : List Bool} {last : Bool} {x : Sample}
    (h : s.pt.receiver = ⟨some false, true, [], none⟩) (sent : (bits ++ [last]).take 16 = sampleBits x) :
    (edgesAt false bits ++ [(⟨true, last⟩ : BitClockEdge)]).foldl State.bitClock s = s.withReceiver ⟨some true, true, [], some x⟩ := by
  rw [List.foldl_append]
  obtain ⟨length, spelt⟩ | ⟨front, b, rest, rfl, length, spelt⟩ := channel_cases sent
  · rw [State.foldl_bitClock_receiving bits h (by simp [length]), List.nil_append]
    exact State.bitClock_of_silent rfl (by
      simp [State.withReceiver, I2sReceiver.edge, I2sReceiver.data, I2sReceiver.take, I2sReceiver.change, length, spelt])
  · have filled : (s.withReceiver ⟨some false, true, front, none⟩).bitClock ⟨false, b⟩
        = s.withReceiver ⟨some false, true, front ++ [b], some x⟩ :=
      State.bitClock_of_silent rfl (by
        simp [State.withReceiver, I2sReceiver.edge, I2sReceiver.data, I2sReceiver.take, length, spelt])
    rw [edgesAt, List.map_append, List.foldl_append, ← edgesAt, State.foldl_bitClock_receiving front h (by simp [length]),
      List.nil_append, List.map_cons, List.foldl_cons, List.foldl_cons, filled, ← edgesAt,
      State.foldl_bitClock_past rest (s := s.withReceiver _) rfl (by simp [length])]
    exact State.bitClock_change (level := false) rfl (by simp [length]) last

/-! ### A frame in progress, and its completion (R87, R91, R94, R176) -/

theorem State.sample_of_few {s : State} {x : StereoSample} (few : (s.pt.inProgress ++ [x]).length < 480) :
    s.sample x = s.withPt { s.pt with inProgress := s.pt.inProgress ++ [x] } := by
  rw [State.sample]
  exact if_pos few

theorem State.sample_of_full {s : State} {x : StereoSample} {all : List StereoSample} (hall : all = s.pt.inProgress ++ [x])
    (full : 480 ≤ all.length) :
    s.sample x
      = let reported :=
          ((s.micClip .zero all).micClip .one all).withPt (s.pt.complete s.ps.profile.voiceThreshold s.sc.key all)
        reported.withSu reported.takeReports := by
  rw [State.sample, ← hall]
  exact if_neg (Nat.not_lt.2 full)

/-- MIC-CLIP joins every port's set where the lane's hold-off raises it, and nothing else changes. -/
theorem State.micClip_withPorts (s : State) (l : Lane) (all : List StereoSample) :
    ∃ p, s.micClip l all = s.withPorts p ∧ ∀ src, ((s.withPorts p).port src).events = (s.port src).events
      ||| if PitchLane.alerts s.ps.profile.voiceThreshold s.pt.latchedKey (all.take 480) l (s.pt.lanes.get l)
        then (Event.micClip l).bit else 0#12 := by
  rw [State.micClip]
  split
  · next alerts =>
    refine ⟨_, rfl, fun src => ?_⟩
    rw [if_pos (by exact alerts)]
    exact congrArg Port.events (s.port_raiseAll (.micClip l) src)
  · next quiet =>
    refine ⟨s.ports, rfl, fun src => ?_⟩
    rw [if_neg (by exact quiet), BitVec.or_zero]
    rfl

theorem State.withReceiver_micClip (s : State) (r : I2sReceiver) (l : Lane) (all : List StereoSample) :
    (s.withReceiver r).micClip l all = (s.micClip l all).withReceiver r := by
  rw [State.micClip, State.micClip, apply_ite (State.withReceiver · r)]
  rfl

/-- What a sample does does not turn on the receiver. -/
theorem State.sample_withReceiver (s : State) (r r' : I2sReceiver) (x : StereoSample) :
    ((s.withReceiver r).sample x).withReceiver r' = (s.withReceiver r').sample x := by
  by_cases few : (s.pt.inProgress ++ [x]).length < 480
  · rw [State.sample_of_few (s := s.withReceiver r) few, State.sample_of_few (s := s.withReceiver r') few]
    rfl
  · rw [State.sample_of_full (s := s.withReceiver r) rfl (Nat.not_lt.1 few),
      State.sample_of_full (s := s.withReceiver r') rfl (Nat.not_lt.1 few)]
    simp only [State.withReceiver_micClip]
    rfl

theorem State.sample_receiver (s : State) (x : StereoSample) : (s.sample x).pt.receiver = s.pt.receiver := by
  by_cases few : (s.pt.inProgress ++ [x]).length < 480
  · rw [State.sample_of_few few]
    rfl
  · rw [State.sample_of_full rfl (Nat.not_lt.1 few)]
    rfl

/-- The right channel's half of a frame completes it. -/
theorem State.foldl_bitClock_right {s : State} {bits : List Bool} {last : Bool} {l r : Sample}
    (h : s.pt.receiver = ⟨some true, true, [], some l⟩) (sent : (bits ++ [last]).take 16 = sampleBits r) :
    (edgesAt true bits ++ [(⟨false, last⟩ : BitClockEdge)]).foldl State.bitClock s
      = (s.withReceiver ⟨some false, true, [], none⟩).sample (l, r) := by
  rw [List.foldl_append]
  obtain ⟨length, spelt⟩ | ⟨front, b, rest, rfl, length, spelt⟩ := channel_cases sent
  · rw [State.foldl_bitClock_receiving bits h (by simp [length]), List.nil_append]
    exact State.bitClock_of_frame rfl (by
      simp [State.withReceiver, I2sReceiver.edge, I2sReceiver.data, I2sReceiver.take, I2sReceiver.change, length, spelt])
  · have filled : (s.withReceiver ⟨some true, true, front, some l⟩).bitClock ⟨true, b⟩
        = (s.withReceiver ⟨some true, true, front ++ [b], none⟩).sample (l, r) :=
      State.bitClock_of_frame rfl (by
        simp [State.withReceiver, I2sReceiver.edge, I2sReceiver.data, I2sReceiver.take, length, spelt])
    have receiver := State.sample_receiver (s.withReceiver ⟨some true, true, front ++ [b], none⟩) (l, r)
    rw [edgesAt, List.map_append, List.foldl_append, ← edgesAt, State.foldl_bitClock_receiving front h (by simp [length]),
      List.nil_append, List.map_cons, List.foldl_cons, List.foldl_cons, filled, ← edgesAt,
      State.foldl_bitClock_past rest receiver (by simp [length])]
    exact (State.bitClock_change (level := true) receiver (by simp [length]) last).trans (s.sample_withReceiver _ _ _)

/-- A completion: the reports, the latched key, MIC-CLIP where the hold-offs raise it, and the scores. -/
theorem State.sample_completes {s : State} {x : StereoSample} {all frame : List StereoSample} {r0 r1 : PitchReport}
    (hall : all = s.pt.inProgress ++ [x]) (full : 480 ≤ all.length) (hframe : frame = all.take 480)
    (h0 : r0 = pitchReport s.ps.profile.voiceThreshold s.pt.latchedKey s.pt.lanes.lane0.previous (frame.map (fun x => x.1)))
    (h1 : r1 = pitchReport s.ps.profile.voiceThreshold s.pt.latchedKey s.pt.lanes.lane1.previous
      (frame.map (fun x => x.2))) :
    ∃ p t, s.sample x = t
      ∧ t = ((s.withPorts p).withPt
          { receiver := s.pt.receiver
            inProgress := all.drop 480
            latchedKey := s.sc.key
            lanes := ⟨⟨frame.map (fun x => x.1), some r0, !r0.clip⟩, ⟨frame.map (fun x => x.2), some r1, !r1.clip⟩⟩ }).withSu
          t.su
      ∧ (∀ src, ((s.withPorts p).port src).events = (s.port src).events
          ||| (if s.pt.lanes.lane0.armed && r0.clip then (Event.micClip .zero).bit else 0#12)
          ||| (if s.pt.lanes.lane1.armed && r1.clip then (Event.micClip .one).bit else 0#12))
      ∧ t.su = if s.su.guarded then { s.su with guarded := false }
        else if s.sc.stage = .playing then
          { s.su with
            lanes := ⟨s.scoreLane (s.sl.playingSong.getD Song.blank) .zero s.su.lanes.lane0 r0,
              s.scoreLane (s.sl.playingSong.getD Song.blank) .one s.su.lanes.lane1 r1⟩ }
        else s.su := by
  subst hframe h0 h1
  obtain ⟨p, hp, events0⟩ := s.micClip_withPorts .zero all
  obtain ⟨q, hq, events1⟩ := (s.withPorts p).micClip_withPorts .one all
  refine ⟨q, _, State.sample_of_full hall full, ?_, fun src => ?_, ?_⟩
  · rw [hp, hq]
    rfl
  · exact (events1 src).trans (by rw [events0 src]; rfl)
  · rw [hp, hq]
    rfl

theorem countP_toInt (current : List Sample) :
    (current.map BitVec.toInt).countP (fun v => v == 32767 || v == -32768)
      = current.countP (fun v => v == 0x7FFF#16 || v == 0x8000#16) := by
  rw [List.countP_map]
  refine List.countP_congr fun v _ => ?_
  have top : v.toInt = 32767 ↔ v = 0x7FFF#16 := by
    rw [← BitVec.toInt_inj]; rfl
  have bottom : v.toInt = -32768 ↔ v = 0x8000#16 := by
    rw [← BitVec.toInt_inj]; rfl
  simp only [Function.comp_apply, Bool.or_eq_true, beq_iff_eq, top, bottom]

/-- Settles O47: the receiver by halves of a frame, the completion, and the report. -/
theorem analysisFrameCompletes : Obligations.AnalysisFrameCompletes := by
  unfold Obligations.AnalysisFrameCompletes
  have run {s : State} (outside : s.inReset = false) (edges : List BitClockEdge) :
      exec (.analysisFrameCompletion edges) s = .next (edges.foldl State.bitClock s) :=
    congrArg Host.Outcome.next (State.outsideReset_of outside _)
  refine ⟨fun s bits last outside => ⟨fun fresh => ⟨?_, fun some' => ?_⟩, fun x waits sent => ?_⟩,
    fun s bits last l r edges all frame r0 r1 outside waits sent hedges hall => ?_, ?_⟩
  · rw [run outside]
    cases bits with
    | nil => rw [if_pos rfl, ← fresh]; rfl
    | cons b rest =>
      rw [if_neg (by simp), edgesAt, List.map_cons, List.foldl_cons, State.bitClock_unbegun fresh (by simp), ← edgesAt,
        State.foldl_bitClock_unbegun rest (s := s.withReceiver _) rfl]
      rfl
  · rw [run outside]
    cases bits with
    | nil => exact absurd rfl some'
    | cons b rest =>
      rw [edgesAt, List.map_cons, List.foldl_append, List.foldl_cons, List.foldl_cons, State.bitClock_unbegun fresh (by simp), ← edgesAt,
        State.foldl_bitClock_unbegun rest (s := s.withReceiver _) rfl]
      exact congrArg Host.Outcome.next (State.bitClock_begins rfl last)
  · rw [run outside, State.foldl_bitClock_left waits sent]
    rfl
  · rw [hedges, run outside, State.foldl_bitClock_right waits sent]
    refine ⟨fun few => ?_, fun full hframe h0 h1 => ?_⟩
    · rw [State.sample_of_few (s := s.withReceiver _) (hall ▸ few), hall]
      rfl
    · obtain ⟨p, t, ht, blocks, events, scores⟩ :=
        State.sample_completes (s := s.withReceiver ⟨some false, true, [], none⟩) hall full hframe h0 h1
      refine ⟨t, congrArg _ ht, ?_⟩
      refine ⟨by rw [blocks]; rfl, fun src => by rw [blocks]; exact events src, fun guarded => ?_, fun free still => ?_,
        fun free playing => ?_, ?_⟩
      · exact scores.trans (if_pos guarded)
      · exact scores.trans ((if_neg (by rw [Bool.not_eq_true]; exact free)).trans (if_neg still))
      · exact scores.trans ((if_neg (by rw [Bool.not_eq_true]; exact free)).trans (if_pos playing))
      · rw [blocks]
        exact ⟨rfl, rfl, rfl, rfl, rfl, rfl, rfl, rfl⟩
  · rintro threshold key previous current report rfl
    refine ⟨rfl, ?_, rfl, rfl⟩
    rw [pitchReport, frameClip, decide_eq_true_eq, countP_toInt]

end Sys2Proof.Machine
end

section
/-! PROOFS. The level and the sung pitch (chapter 5, section 5.2) as statements about real numbers. -/

namespace Sys2Proof.Machine

/-! ### The level (R88) -/

theorem levelAtLeast_iff (sum m : Nat) : levelAtLeast sum m = true ↔ (480 * 2 ^ 30) ^ 10 ≤ sum ^ 10 * 10 ^ m :=
  decide_eq_true_iff

theorem levelAtLeast_mono {sum m n : Nat} (le : m ≤ n) (h : levelAtLeast sum m = true) : levelAtLeast sum n = true :=
  (levelAtLeast_iff sum n).2 (((levelAtLeast_iff sum m).1 h).trans
    (Nat.mul_le_mul_left _ (Nat.pow_le_pow_right (by omega) le)))

/-- The level is at least -m where the test for m passes. -/
theorem le_frameLevel_iff (x : List Int) {m : Nat} (small : m < 90) :
    -(m : Int) ≤ frameLevel x ↔ levelAtLeast (squareSum x) m = true := by
  rw [frameLevel]
  cases found : (List.range 91).find? (levelAtLeast (squareSum x)) with
  | none =>
    have fails := List.find?_eq_none.1 found m (List.mem_range.2 (by omega))
    rw [Option.getD_none]
    exact ⟨fun le => by omega, fun passes => absurd passes fails⟩
  | some k =>
    obtain ⟨passes, -, least⟩ := List.find?_range_eq_some.1 found
    rw [Option.getD_some]
    refine ⟨fun le => levelAtLeast_mono (by omega) passes, fun test => ?_⟩
    by_contra low
    have := least m (by omega)
    rw [test] at this
    exact Bool.noConfusion this

theorem frameLevel_of_silence {x : List Int} (h : ∀ v ∈ x, v = 0) : frameLevel x = -90 := by
  have silent : squareSum x = 0 := by
    rw [squareSum, List.sum_eq_zero]
    simp only [List.mem_map]
    rintro _ ⟨v, hv, rfl⟩
    rw [h v hv]
    rfl
  have fails : (List.range 91).find? (levelAtLeast (squareSum x)) = none := by
    refine List.find?_eq_none.2 fun m _ => ?_
    rw [levelAtLeast_iff, silent, Nat.zero_pow (by omega), Nat.zero_mul]
    exact Nat.not_le.2 (Nat.pow_pos (by omega))
  rw [frameLevel, fails]
  rfl

theorem frameLevel_of_fullScale {x : List Int} (length : x.length = 480) (h : ∀ v ∈ x, v = -32768) : frameLevel x = 0 := by
  have full : squareSum x = 480 * 2 ^ 30 := by
    rw [List.eq_replicate_of_mem h, length, squareSum, List.map_replicate, List.sum_replicate]
    rfl
  have top : -((0 : Nat) : Int) ≤ frameLevel x :=
    (le_frameLevel_iff x (by omega)).2 ((levelAtLeast_iff _ _).2 (by rw [full, Nat.pow_zero, Nat.mul_one]))
  exact le_antisymm (frameLevel_range x).2 top

/-! ### The normalised correlation (R90) -/

/-- The normalised correlation that three sums stand for. -/
noncomputable def Correlation.value (c : Correlation) : ℝ := c.cross / Real.sqrt ((c.here : ℝ) * c.there)

theorem Correlation.value_of_zero {c : Correlation} (h : c.under = 0) : c.value = 0 := by
  have zero : (c.here : ℝ) * c.there = 0 := by exact_mod_cast h
  rw [Correlation.value, zero, Real.sqrt_zero, div_zero]

/-- The signed square over its denominator is the correlation times its absolute value. -/
theorem Correlation.signedSquare_eq (c : Correlation) :
    0 < c.denominator ∧ (c.signedSquare : ℝ) = c.value * |c.value| * c.denominator := by
  by_cases zero : c.under = 0
  · rw [Correlation.value_of_zero zero, Correlation.signedSquare, Correlation.denominator, if_pos zero, if_pos zero]
    simp
  · have positive : (0 : ℝ) < (c.here : ℝ) * c.there := by exact_mod_cast Nat.pos_of_ne_zero zero
    rw [Correlation.signedSquare, Correlation.denominator, if_neg zero, if_neg zero]
    refine ⟨Nat.pos_of_ne_zero zero, ?_⟩
    have root : Real.sqrt ((c.here : ℝ) * c.there) ≠ 0 := (Real.sqrt_pos.2 positive).ne'
    have square := Real.mul_self_sqrt positive.le
    rw [Correlation.value, abs_div, abs_of_nonneg (Real.sqrt_nonneg _), Correlation.under, Int.cast_mul, Nat.cast_mul,
      Int.cast_natCast, Nat.cast_natAbs, Int.cast_abs, div_mul_div_comm, square, div_mul_cancel₀ _ positive.ne']

/-- A number times its absolute value grows with it. -/
theorem mul_abs_lt_iff (a b : ℝ) : a * |a| < b * |b| ↔ a < b := by
  have grows : StrictMono fun t : ℝ => t * |t| := by
    intro s t lt
    rcases abs_cases s with ⟨hs, _⟩ | ⟨hs, _⟩ <;> rcases abs_cases t with ⟨ht, _⟩ | ⟨ht, _⟩ <;> simp only [hs, ht] <;>
      nlinarith
  exact grows.lt_iff_lt

theorem Correlation.less_iff (c d : Correlation) : c.less d = true ↔ c.value < d.value := by
  obtain ⟨hc, sc⟩ := c.signedSquare_eq
  obtain ⟨hd, sd⟩ := d.signedSquare_eq
  have pc : (0 : ℝ) < c.denominator := by exact_mod_cast hc
  have pd : (0 : ℝ) < d.denominator := by exact_mod_cast hd
  rw [Correlation.less, decide_eq_true_eq, ← @Int.cast_lt ℝ, Int.cast_mul, Int.cast_mul, Int.cast_natCast,
    Int.cast_natCast, sc, sd, ← mul_abs_lt_iff c.value,
    show c.value * |c.value| * c.denominator * d.denominator = c.value * |c.value| * (c.denominator * d.denominator) by ring,
    show d.value * |d.value| * d.denominator * c.denominator = d.value * |d.value| * (c.denominator * d.denominator) by ring,
    mul_lt_mul_iff_left₀ (by positivity)]

theorem Correlation.strong_iff (c : Correlation) : c.strong = true ↔ 0.6 ≤ c.value := by
  have unfolded : c.strong = true ↔ 0 < c.cross ∧ c.under ≠ 0 ∧ 9 * (c.under : Int) ≤ 25 * (c.cross * c.cross) := by
    simp [Correlation.strong, and_assoc]
  rw [unfolded]
  by_cases zero : c.under = 0
  · rw [Correlation.value_of_zero zero]
    exact ⟨fun h => absurd zero h.2.1, fun h => absurd h (by norm_num)⟩
  · have positive : (0 : ℝ) < (c.here : ℝ) * c.there := by exact_mod_cast Nat.pos_of_ne_zero zero
    have root := Real.sqrt_pos.2 positive
    have square := Real.mul_self_sqrt positive.le
    have under : ((c.under : Int) : ℝ) = (c.here : ℝ) * c.there := by rw [Correlation.under]; push_cast; rfl
    rw [Correlation.value, le_div_iff₀ root, ← @Int.cast_lt ℝ, ← @Int.cast_le ℝ]
    push_cast at under ⊢
    rw [under]
    generalize Real.sqrt ((c.here : ℝ) * c.there) = w at root square ⊢
    rw [← square]
    refine ⟨fun ⟨up, _, wide⟩ => ?_, fun wide => ⟨by nlinarith, zero, by nlinarith⟩⟩
    by_contra low
    nlinarith

/-- The sums at a period, and with them c(p). -/
theorem correlationAt_eq {x : List Int} {n p : Nat} (length : x.length = n) :
    correlationAt x p
      = ⟨((List.range (n - p)).map (fun i => x.getD i 0 * x.getD (i + p) 0)).sum,
          ((List.range (n - p)).map (fun i => (x.getD i 0).natAbs * (x.getD i 0).natAbs)).sum,
          ((List.range (n - p)).map (fun i => (x.getD (i + p) 0).natAbs * (x.getD (i + p) 0).natAbs)).sum⟩ := by
  have sums (l : List (Int × Int)) (c : Correlation) :
      l.foldl (fun c ab => (⟨c.cross + ab.1 * ab.2, c.here + ab.1.natAbs * ab.1.natAbs,
          c.there + ab.2.natAbs * ab.2.natAbs⟩ : Correlation)) c
        = ⟨c.cross + (l.map (fun ab => ab.1 * ab.2)).sum, c.here + (l.map (fun ab => ab.1.natAbs * ab.1.natAbs)).sum,
            c.there + (l.map (fun ab => ab.2.natAbs * ab.2.natAbs)).sum⟩ := by
    induction l generalizing c with
    | nil => simp
    | cons ab rest ih => simp [ih, add_assoc]
  have pairs : x.zip (x.drop p) = (List.range (n - p)).map (fun i => (x.getD i 0, x.getD (i + p) 0)) := by
    refine List.ext_getElem (by simp [length]) fun i h1 h2 => ?_
    have hi : i < n - p := by simpa using h2
    simp [List.getD_eq_getElem?_getD, List.getElem?_eq_getElem (show i < x.length by omega),
      List.getElem?_eq_getElem (show i + p < x.length by omega), Nat.add_comm p i]
  rw [correlationAt, pairs, sums]
  simp [Function.comp_def]

theorem correlationAt_value {x : List Int} {n p : Nat} (length : x.length = n) :
    (correlationAt x p).value
      = ((List.range (n - p)).map (fun i => ((x.getD i 0 * x.getD (i + p) 0 : Int) : ℝ))).sum
        / Real.sqrt
            (((List.range (n - p)).map (fun i => ((x.getD i 0 : Int) : ℝ) ^ 2)).sum
              * ((List.range (n - p)).map (fun i => ((x.getD (i + p) 0 : Int) : ℝ) ^ 2)).sum) := by
  have square (v : Int) : ((v.natAbs * v.natAbs : Nat) : ℝ) = (v : ℝ) ^ 2 := by
    rw [Nat.cast_mul, Nat.cast_natAbs, Int.cast_abs, abs_mul_abs_self, pow_two]
  have cast (l : List Nat) (f : Nat → Int) : ((l.map f).sum : ℝ) = (l.map (fun i => (f i : ℝ))).sum := by
    induction l with
    | nil => simp
    | cons i rest ih => simp [ih]
  have castNat (l : List Nat) (f : Nat → Nat) : ((l.map f).sum : ℝ) = (l.map (fun i => (f i : ℝ))).sum := by
    induction l with
    | nil => simp
    | cons i rest ih => simp [ih]
  rw [Correlation.value, correlationAt_eq length]
  simp only [cast, castNat, square]

/-! ### The best period (R90) -/

/-- The best of the periods from 11 up to the one before `next`: the largest c, at the smallest p of several. -/
def bestBelow (x : List Int) (next P : Nat) : Prop :=
  11 ≤ P ∧ P < next ∧ ∀ p, 11 ≤ p → p < next →
    (correlationAt x p).value ≤ (correlationAt x P).value
      ∧ (p < P → (correlationAt x p).value < (correlationAt x P).value)

theorem bestBelow_succ {x : List Int} {next P : Nat} (h : bestBelow x next P) :
    ((correlationAt x P).less (correlationAt x next) = true → bestBelow x (next + 1) next)
      ∧ (¬ (correlationAt x P).less (correlationAt x next) = true → bestBelow x (next + 1) P) := by
  obtain ⟨low, below, best⟩ := h
  rw [Correlation.less_iff]
  refine ⟨fun better => ⟨by omega, by omega, fun p hp hlt => ?_⟩, fun worse => ⟨low, by omega, fun p hp hlt => ?_⟩⟩
  · obtain rfl | earlier : p = next ∨ p < next := by omega
    · exact ⟨le_rfl, fun self => absurd self (lt_irrefl _)⟩
    · have less := (best p hp earlier).1.trans_lt better
      exact ⟨less.le, fun _ => less⟩
  · obtain rfl | earlier : p = next ∨ p < next := by omega
    · exact ⟨not_lt.1 worse, fun later => by omega⟩
    · exact best p hp earlier

theorem bestPeriod_spec (x : List Int) :
    (bestPeriod x).2 = correlationAt x (bestPeriod x).1 ∧ bestBelow x 369 (bestPeriod x).1 := by
  have folded (n : Nat) (best : Nat × Correlation)
      (h : best = (List.range' 12 n).foldl
        (fun best p =>
          let c := correlationAt x p
          if best.2.less c then (p, c) else best) (11, correlationAt x 11)) :
      best.2 = correlationAt x best.1 ∧ bestBelow x (12 + n) best.1 := by
    induction n generalizing best with
    | zero =>
      subst h
      refine ⟨rfl, le_rfl, Nat.lt_succ_self 11, fun p low high => ?_⟩
      obtain rfl : p = 11 := by omega
      exact ⟨le_rfl, fun self => absurd self (lt_irrefl _)⟩
    | succ n ih =>
      rw [List.range'_1_concat, List.foldl_append, List.foldl_cons, List.foldl_nil] at h
      obtain ⟨at', sofar⟩ := ih _ rfl
      generalize (List.range' 12 n).foldl _ _ = previous at h at' sofar
      obtain ⟨take, keep⟩ := bestBelow_succ sofar
      rw [at'] at h
      subst h
      dsimp only
      split
      · next better => exact ⟨rfl, take better⟩
      · next worse => exact ⟨at', keep worse⟩
  exact folded 357 _ rfl
/-! ### The refined period (R90) -/

/-- The quotient of the two parts is this period, and the lower part is positive. -/
def RefinedPeriod.hasPeriod (r : RefinedPeriod) (period : ℝ) : Prop :=
  0 < Surd.value r.rs r.den ∧ Surd.value r.rs r.num = period * Surd.value r.rs r.den

theorem RefinedPeriod.hasPeriod_whole (p : Nat) : (RefinedPeriod.whole p).hasPeriod p := by
  have num : Surd.value (RefinedPeriod.whole p).rs (RefinedPeriod.whole p).num = p := Int.cast_natCast p
  have den : Surd.value (RefinedPeriod.whole p).rs (RefinedPeriod.whole p).den = 1 := Int.cast_one
  rw [RefinedPeriod.hasPeriod, num, den, mul_one]
  exact ⟨one_pos, rfl⟩

/-- A correlation as its cross sum times the root of its denominator, over that denominator. -/
theorem Correlation.value_eq (c : Correlation) :
    ((if c.under = 0 then 0 else c.cross : Int) : ℝ) * Real.sqrt c.denominator = c.value * c.denominator := by
  by_cases zero : c.under = 0
  · rw [Correlation.value_of_zero zero, if_pos zero, Int.cast_zero, zero_mul, zero_mul]
  · have positive : (0 : ℝ) < (c.here : ℝ) * c.there := by exact_mod_cast Nat.pos_of_ne_zero zero
    have root := (Real.sqrt_pos.2 positive).ne'
    have square := Real.mul_self_sqrt positive.le
    rw [if_neg zero, Correlation.denominator, if_neg zero, Correlation.under, Nat.cast_mul, Correlation.value]
    rw [div_mul_eq_mul_div, eq_div_iff root, mul_assoc, square]

/-- The period refined by the parabola through three correlations. -/
noncomputable def refinedBy (p : Nat) (before at_ after : ℝ) : ℝ :=
  if 2 * (before - 2 * at_ + after) ≠ 0 then p + (before - after) / (2 * (before - 2 * at_ + after)) else p

/-- Three numbers over roots that are a positive multiple of three correlations give the period these refine. -/
theorem hasPeriod_of_parabola {rs : List Nat} {c0 c1 c2 divisor top : Surd rs} {common a b c : ℝ} (p : Nat)
    (positive : 0 < common) (h0 : Surd.value rs c0 = a * common) (h1 : Surd.value rs c1 = b * common)
    (h2 : Surd.value rs c2 = c * common)
    (hdivisor : divisor = Surd.scale rs 2 (Surd.add rs c0 (Surd.add rs (Surd.scale rs (-2) c1) c2)))
    (htop : top = Surd.add rs (Surd.scale rs p divisor) (Surd.add rs c0 (Surd.scale rs (-1) c2))) :
    (if Surd.sign rs divisor = 0 then RefinedPeriod.whole p
      else ⟨rs, Surd.scale rs (Surd.sign rs divisor) top, Surd.scale rs (Surd.sign rs divisor) divisor⟩).hasPeriod
        (refinedBy p a b c) := by
  have vd : Surd.value rs divisor = 2 * (a - 2 * b + c) * common := by
    rw [hdivisor, Surd.value_scale, Surd.value_add, Surd.value_add, Surd.value_scale, h0, h1, h2]
    push_cast
    ring
  have vt : Surd.value rs top = (p * (2 * (a - 2 * b + c)) + (a - c)) * common := by
    rw [htop, Surd.value_add, Surd.value_add, Surd.value_scale, Surd.value_scale, vd, h0, h2]
    push_cast
    ring
  rw [refinedBy]
  generalize 2 * (a - 2 * b + c) = slope at vd vt
  have hsg : Surd.sign rs divisor = (SignType.sign slope : Int) := by
    rw [Surd.sign_eq, vd, sign_mul, sign_pos positive, mul_one]
  have flat : Surd.sign rs divisor = 0 ↔ slope = 0 := by
    rw [hsg, ← sign_eq_zero_iff (a := slope)]
    generalize SignType.sign slope = sign
    revert sign
    decide
  by_cases zero : Surd.sign rs divisor = 0
  · rw [if_pos zero, if_neg (not_not.2 (flat.1 zero))]
    exact RefinedPeriod.hasPeriod_whole p
  · have steep := fun h => zero (flat.2 h)
    have sign : (Surd.sign rs divisor : ℝ) = (SignType.sign slope : ℝ) := by rw [hsg]; simp
    have den : Surd.value rs (Surd.scale rs (Surd.sign rs divisor) divisor) = |slope| * common := by
      rw [Surd.value_scale, vd, sign, ← mul_assoc, sign_mul_self]
    have num : Surd.value rs (Surd.scale rs (Surd.sign rs divisor) top) = (p + (a - c) / slope) * (|slope| * common) := by
      rw [Surd.value_scale, vt, sign, ← sign_mul_self]
      field_simp
    rw [if_neg zero, if_pos steep]
    exact ⟨den ▸ mul_pos (abs_pos.2 steep) positive, num.trans (den ▸ rfl)⟩

/-- The cross sum times the two other denominators, under its root, is the correlation times all three. -/
theorem Correlation.root_value (c : Correlation) (rs : List Nat) (i x y : Nat) (h : rs[i]? = some c.denominator) :
    Surd.value rs (Surd.root rs i ((if c.under = 0 then 0 else c.cross) * x * y)) = c.value * (c.denominator * x * y) := by
  rw [Surd.value_root, h]
  dsimp only
  rw [Int.cast_mul, Int.cast_mul, Int.cast_natCast, Int.cast_natCast]
  linear_combination (x * y : ℝ) * c.value_eq

theorem refinePeriod_hasPeriod (p : Nat) (before at_ after : Correlation) :
    (refinePeriod p before at_ after).hasPeriod (refinedBy p before.value at_.value after.value) := by
  have positive : (0 : ℝ) < before.denominator * at_.denominator * after.denominator := by
    exact_mod_cast Nat.mul_pos (Nat.mul_pos before.signedSquare_eq.1 at_.signedSquare_eq.1) after.signedSquare_eq.1
  refine hasPeriod_of_parabola p positive (before.root_value _ 0 _ _ rfl)
    ((at_.root_value _ 1 _ _ rfl).trans (by ring)) ((after.root_value _ 2 _ _ rfl).trans (by ring)) rfl rfl

/-! ### The sung pitch (R90) -/

/-- A power of one positive number against a power of two times the same power of another, as a logarithm. -/
theorem two_pow_mul_le_iff {A B : ℝ} (hA : 0 < A) (hB : 0 < B) (m n : Nat) :
    (2 : ℝ) ^ m * A ^ n ≤ B ^ n ↔ (m : ℝ) ≤ n * Real.logb 2 (B / A) := by
  rw [← Real.logb_pow, Real.le_logb_iff_rpow_le one_lt_two (pow_pos (div_pos hB hA) n), Real.rpow_natCast, div_pow,
    le_div_iff₀ (pow_pos hA n)]

theorem pitchAtLeast_iff {rs : List Nat} {numPower denPower : Surd rs} {k : Nat} :
    pitchAtLeast rs numPower denPower k = true
      ↔ (2 : ℝ) ^ (2 * k - 1) * Surd.value rs numPower ≤ Surd.value rs denPower := by
  have sign (z : ℝ) : 0 ≤ (SignType.sign z : Int) ↔ 0 ≤ z := by
    rw [← sign_nonneg_iff (a := z)]
    generalize SignType.sign z = sign
    revert sign
    decide
  rw [pitchAtLeast, decide_eq_true_eq, Surd.sign_eq, sign, Surd.value_add, Surd.value_scale]
  push_cast
  constructor <;> intro h <;> linarith

/-- The pitch of a period in cents, before it is rounded. -/
noncomputable def centsOf (period : ℝ) : ℝ := 1200 * Real.logb 2 (24000 / period / 8.1758)

/-- The sung pitch of a period is the nearest cent, where that lies in range. -/
theorem RefinedPeriod.pitch_eq {r : RefinedPeriod} {period : ℝ} (h : r.hasPeriod period) (positive : 0 < period) :
    r.pitch = if 3600 ≤ ⌊centsOf period + 1 / 2⌋ ∧ ⌊centsOf period + 1 / 2⌋ ≤ 9600
      then some ⌊centsOf period + 1 / 2⌋ else none := by
  obtain ⟨hden, hnum⟩ := h
  unfold RefinedPeriod.pitch
  extract_lets numPower denPower test
  have test_iff (k : Nat) : test k = true ↔ ((2 * k - 1 : Nat) : ℝ) ≤ 2 * centsOf period := by
    have A : 0 < ((81758 : Int) : ℝ) * Surd.value r.rs r.num := by rw [hnum]; positivity
    have B : 0 < ((240000000 : Int) : ℝ) * Surd.value r.rs r.den := by positivity
    have ratio : ((240000000 : Int) : ℝ) * Surd.value r.rs r.den / (((81758 : Int) : ℝ) * Surd.value r.rs r.num)
        = 24000 / period / 8.1758 := by
      rw [hnum]
      push_cast
      field_simp
      norm_num
    have powers := two_pow_mul_le_iff A B (2 * k - 1) 2400
    rw [ratio] at powers
    rw [show test k = pitchAtLeast r.rs numPower denPower k from rfl, pitchAtLeast_iff, Surd.value_pow, Surd.value_pow,
      Surd.value_scale, Surd.value_scale, powers, centsOf]
    push_cast
    constructor <;> intro le <;> linarith
  have rounded {k : Nat} (hk : 1 ≤ k) : test k = true ↔ (k : Int) ≤ ⌊centsOf period + 1 / 2⌋ := by
    rw [test_iff, Int.le_floor, Nat.cast_sub (by omega)]
    push_cast
    constructor <;> intro le <;> linarith
  have down (i j : Nat) (le : i ≤ j) (hj : test j = true) : test i = true := by
    rw [test_iff] at hj ⊢
    exact (Nat.cast_le.2 (by omega)).trans hj
  clear_value test
  generalize ⌊centsOf period + 1 / 2⌋ = cents at rounded ⊢
  have low : test 3600 = true ↔ 3600 ≤ cents := rounded (by omega)
  have high : (!test 9601) = true ↔ cents ≤ 9600 := by
    rw [Bool.not_eq_true', ← Bool.not_eq_true, rounded (by omega)]
    push_cast
    omega
  by_cases inside : 3600 ≤ cents ∧ cents ≤ 9600
  · rw [if_pos inside, if_pos (by rw [Bool.and_eq_true, low, high]; exact inside)]
    have atLow := low.2 inside.1
    have atHigh : test 9601 = false := by simpa using high.2 inside.2
    obtain ⟨passes, fails⟩ := searchLast_spec test down 14 3600 9601 atLow atHigh (by decide)
    have least := (searchLast_range test 14 (by decide : 3600 < 9601)).1
    have below := (rounded (by omega)).1 passes
    have above : ¬ ((searchLast test 14 3600 9601 + 1 : Nat) : Int) ≤ cents :=
      (rounded (by omega)).not.1 (by rw [fails]; exact Bool.false_ne_true)
    exact congrArg some (by omega)
  · rw [if_neg inside, if_neg (by rw [Bool.and_eq_true, low, high]; exact inside)]

/-- The best period's neighbours refine it by at most half a sample. -/
theorem refinedBy_pos {p : Nat} {before at_ after : ℝ} (hp : 1 ≤ p) (left : before < at_) (right : after ≤ at_) :
    0 < refinedBy p before at_ after := by
  have one : (1 : ℝ) ≤ p := by exact_mod_cast hp
  have slope : 2 * (before - 2 * at_ + after) < 0 := by linarith
  rw [refinedBy, if_pos slope.ne]
  have half : -(1 / 2) ≤ (before - after) / (2 * (before - 2 * at_ + after)) := by
    rw [le_div_iff_of_neg slope]
    linarith
  linarith

/-- The period refined between samples, from 12 to 367. -/
noncomputable def refinedPeriod (c : Nat → ℝ) (p : Nat) : ℝ :=
  if 12 ≤ p ∧ p ≤ 367 then refinedBy p (c (p - 1)) (c p) (c (p + 1)) else p

theorem refinedOf_hasPeriod (x : List Int) (p : Nat) :
    (refinedOf x p (correlationAt x p)).hasPeriod (refinedPeriod (fun q => (correlationAt x q).value) p) := by
  rw [refinedOf, refinedPeriod]
  split
  · exact refinePeriod_hasPeriod _ _ _ _
  · exact RefinedPeriod.hasPeriod_whole p

theorem refinedPeriod_pos {x : List Int} {p : Nat} (h : bestBelow x 369 p) :
    0 < refinedPeriod (fun q => (correlationAt x q).value) p := by
  obtain ⟨low, high, best⟩ := h
  rw [refinedPeriod]
  split
  · next inner =>
    exact refinedBy_pos (by omega) ((best (p - 1) (by omega) (by omega)).2 (by omega)) (best (p + 1) (by omega) (by omega)).1
  · exact Nat.cast_pos.2 (by omega)

theorem sungPitch_eq (threshold : Int) (previous current : List Int) {x : List Int} (hx : x = previous ++ current) {P : Nat}
    (hP : P = (bestPeriod x).1) :
    sungPitch threshold previous current
      = if threshold ≤ frameLevel current ∧ 0.6 ≤ (correlationAt x P).value
        then (refinedOf x P (correlationAt x P)).pitch else none := by
  rw [sungPitch, ← hx]
  dsimp only
  rw [(bestPeriod_spec x).1, ← hP]
  by_cases quiet : frameLevel current < threshold
  · rw [if_pos quiet, if_neg fun h => absurd h.1 (not_le.2 quiet)]
  · rw [if_neg quiet]
    simp only [Correlation.strong_iff, not_lt.1 quiet, true_and]

/-- Settles O48: the level by its tests, and the sung pitch by the value of each exact number. -/
theorem levelIsTheFloor : Obligations.LevelIsTheFloor := by
  unfold Obligations.LevelIsTheFloor
  refine ⟨fun x length _ => ⟨(frameLevel_range x).1, (frameLevel_range x).2, fun m small => ?_, frameLevel_of_silence,
    frameLevel_of_fullScale length⟩, fun threshold previous current x c hx length hc => ?_⟩
  · exact (le_frameLevel_iff x small).trans (levelAtLeast_iff _ m)
  · have value : c = fun p => (correlationAt x p).value := funext fun p => (hc p).trans (correlationAt_value length).symm
    have best := (bestPeriod_spec x).2
    obtain ⟨low, high, most⟩ := id best
    have sung := sungPitch_eq threshold previous current hx rfl
    subst value
    refine ⟨(bestPeriod x).1, low, by omega, fun p hp hle => most p hp (by omega), sung,
      fun divisor period cents hdivisor hperiod hcents => ?_, fun s hs => sungPitch_range hs⟩
    generalize (bestPeriod x).1 = P at best sung hdivisor hperiod ⊢
    have same : period = refinedPeriod (fun q => (correlationAt x q).value) P := by
      rw [hperiod, hdivisor, refinedPeriod]
      by_cases inner : 12 ≤ P ∧ P ≤ 367
      · rw [if_pos inner, refinedBy]
        simp only [inner, true_and]
      · rw [if_neg inner, if_neg fun h => inner ⟨h.1, h.2.1⟩]
    rw [sung, RefinedPeriod.pitch_eq (refinedOf_hasPeriod x P) (refinedPeriod_pos best), ← same, centsOf, ← hcents]
    by_cases voiced : threshold ≤ frameLevel current ∧ 0.6 ≤ (correlationAt x P).value
    · simp only [voiced, true_and, if_true]
    · rw [if_neg voiced, if_neg fun h => voiced ⟨h.1, h.2.1⟩]

end Sys2Proof.Machine
end

section
/-! PROOFS. What waits at the QM (chapter 2): an idle QM leaves nothing waiting, whatever arrives and whatever the arbiter
chooses. -/

namespace Sys2Proof.Machine

/-! ### The arbiter's choice (R33) -/

/-- What the arbiter makes of the QM whose operation has ended: a notice goes first, then TAKE-NEXT or the oldest edit, and
with nothing waiting the QM is idle. -/
inductive Chosen (q : QueueManager) : QueueManager → Prop
  | notice (n : Notice) (rest : List Notice) (rights : BitVec 4) (threshold : Nat) (first : q.notices = n :: rest) :
      Chosen q { q with notices := rest, inFlight := some ⟨.notice n, rights, threshold⟩ }
  | takeNext (ahead : Nat) (rights : BitVec 4) (threshold : Nat) (calm : q.notices = []) (waits : q.takeNext = some ahead) :
      Chosen q { q with takeNext := none, inFlight := some ⟨.takeNext, rights, threshold⟩ }
  | edit (item : BacklogItem) (rest : List BacklogItem) (rights : BitVec 4) (threshold : Nat) (calm : q.notices = [])
      (oldest : q.backlog = item :: rest) :
      Chosen q
        { q with
          backlog := rest
          takeNext := q.takeNext.map (fun k => k - 1)
          inFlight := some ⟨.edit item, rights, threshold⟩ }
  | idle (calm : q.notices = []) (free : q.takeNext = none) (empty : q.backlog = []) :
      Chosen q { q with inFlight := none }

theorem QueueManager.backlog_of_anyHit {q : QueueManager} {threshold ahead : Nat} (h : q.anyHit threshold ahead = true) :
    q.backlog ≠ [] := by
  intro empty
  rw [QueueManager.anyHit, empty, List.take_nil] at h
  exact Bool.noConfusion h

theorem State.takeOldestEdit_chosen {s : State} (calm : s.qm.notices = []) (waits : s.qm.backlog = [] → s.qm.takeNext = none) :
    Chosen s.qm s.takeOldestEdit.qm := by
  unfold State.takeOldestEdit
  split
  · next empty => exact .idle calm (waits empty) empty
  · next item rest oldest => exact .edit item rest _ _ calm oldest

theorem State.arbitrate_chosen (s : State) : Chosen s.qm s.arbitrate.qm := by
  cases notices : s.qm.notices with
  | cons n rest =>
    rw [State.arbitrate_of_notice notices]
    exact .notice n rest _ _ notices
  | nil =>
    cases takeNext : s.qm.takeNext with
    | none =>
      rw [State.arbitrate_of_no_takeNext notices takeNext]
      exact State.takeOldestEdit_chosen notices fun _ => takeNext
    | some ahead =>
      cases hit : s.qm.anyHit s.ps.profile.promote ahead with
      | true =>
        rw [State.arbitrate_of_hit notices takeNext hit]
        exact State.takeOldestEdit_chosen notices fun empty => absurd empty (QueueManager.backlog_of_anyHit hit)
      | false =>
        rw [State.arbitrate_of_no_hit notices takeNext hit]
        exact .takeNext ahead _ _ notices takeNext

/-! ### Nothing waits at an idle QM (R29, R32) -/

/-- A waiting TAKE-NEXT counts no more edits ahead of it than there are. -/
def QueueManager.countsAhead (q : QueueManager) : Prop := ∀ k, q.takeNext = some k → k ≤ q.backlog.length

theorem Chosen.waitsInOrder {q r : QueueManager} (h : Chosen q r) (ahead : q.countsAhead) : r.waitsInOrder := by
  cases h with
  | notice => exact ⟨(nomatch ·), ahead⟩
  | takeNext => exact ⟨(nomatch ·), fun _ h => nomatch h⟩
  | edit item rest _ _ _ oldest =>
    refine ⟨(nomatch ·), fun k hk => ?_⟩
    obtain ⟨j, hj, rfl⟩ := Option.map_eq_some_iff.1 hk
    have := ahead j hj
    rw [oldest, List.length_cons] at this
    show j - 1 ≤ rest.length
    omega
  | idle calm free empty => exact ⟨fun _ => ⟨empty, free, calm⟩, fun k hk => by cases free.symm.trans hk⟩

theorem QueueManager.sameWork.waitsInOrder {q r : QueueManager} (h : q.sameWork r) (hr : r.waitsInOrder) :
    q.waitsInOrder := by
  obtain ⟨inFlight, backlog, takeNext, notices, -⟩ := h
  unfold QueueManager.waitsInOrder QueueManager.idle QueueManager.calm
  rwa [inFlight, backlog, takeNext, notices]

theorem State.waitsInOrder_arrive {s : State} (h : s.qm.waitsInOrder) (op : Operation) : (s.arrive op).qm.waitsInOrder := by
  obtain ⟨-, ahead⟩ := h
  obtain ⟨-, he⟩ | ⟨busy, ⟨item, -, he⟩ | ⟨-, he⟩ | ⟨n, -, he⟩⟩ := s.arrive_cases op <;> rw [he]
  · exact ⟨(nomatch ·), ahead⟩
  · exact ⟨(absurd · busy), fun k hk => (ahead k hk).trans (by simp)⟩
  · exact ⟨(absurd · busy), fun k hk => (Option.some.inj hk).ge⟩
  · exact ⟨(absurd · busy), ahead⟩

theorem State.waitsInOrder_finalise {s : State} (h : s.qm.waitsInOrder) (kind : EndKind) :
    (s.finalise kind).qm.waitsInOrder := by
  unfold State.finalise
  refine State.waitsInOrder_arrive ?_ _
  exact h

/-- The end of an operation leaves what the arbiter chooses of the work that waited. -/
theorem State.waitsInOrder_finish {s : State} (h : s.qm.waitsInOrder) (src : Source) (c : Command) {o : Outcome}
    (same : o.qm.sameWork s.qm) : (s.finish src c o).qm.waitsInOrder :=
  (State.arbitrate_chosen _).waitsInOrder (by simpa [QueueManager.countsAhead] using (same.waitsInOrder h).2)

theorem State.waitsInOrder_finishNotice {s : State} (h : s.qm.waitsInOrder) {q : QueueManager} (same : q.sameWork s.qm)
    {slots : State → State} (keeps : ∀ t, (slots t).qm = t.qm) (c : Confirmation) :
    (s.finishNotice q slots c).qm.waitsInOrder := by
  refine (State.arbitrate_chosen _).waitsInOrder ?_
  rw [State.noteChange_qm, keeps]
  exact (same.waitsInOrder h).2

theorem Work.waitsInOrder {src : Source} {c : Command} {s t : State} (h : Work src c s t) (hs : s.qm.waitsInOrder) :
    t.qm.waitsInOrder := by
  cases h with
  | edit | takeNext => exact State.waitsInOrder_arrive hs _
  | start => unfold State.beginStart; refine State.waitsInOrder_arrive ?_ _; exact hs
  | stop => exact State.waitsInOrder_finalise hs _
  | stageReset => unfold State.beginReset; refine State.waitsInOrder_arrive ?_ _; exact hs
  | sync s time ended a song =>
    have timed : (s.setTime time).qm = s.qm := by simp [State.setTime]
    rw [State.answer_qm, State.endIf]
    split
    · exact State.waitsInOrder_finalise (timed ▸ hs) _
    · rwa [timed]
  | _ => simpa [State.loadDone, State.stageChangedIf, State.endResult] using hs

theorem State.showResult_qm (s : State) : s.showResult.qm = s.qm := by
  obtain ⟨-, h⟩ | ⟨-, -, h⟩ | ⟨-, -, h⟩ := s.showResult_cases <;> rw [h] <;> rfl

theorem Move.waitsInOrder {i : Instr} {s t : State} (h : Move i s t) (hs : s.qm.waitsInOrder) : t.qm.waitsInOrder := by
  cases h with
  | handled src t h =>
    cases h with
    | nothing => exact hs
    | refused => simpa using hs
    | routed c t taken work => exact work.waitsInOrder hs
  | selectFalls => obtain ⟨p, h⟩ := s.selectFalls_withPorts; rw [h]; exact hs
  | clockByte b => obtain ⟨p, h⟩ := s.clockByte_withPorts b; rw [h]; exact hs
  | editEnd => exact State.waitsInOrder_finish hs _ _ (Applied.edit _ _ _).steps.sameWork
  | takeNextEnd => exact State.waitsInOrder_finish hs _ _ Applied.takeNext.steps.sameWork
  | startEnd e row notice cued =>
    exact State.waitsInOrder_finishNotice (slots := State.playSlot e.ticket) hs (Applied.start e cued).steps.sameWork
      (fun _ => rfl) _
  | startLost => exact State.waitsInOrder_finishNotice hs (QueueSteps.sameWork .refl) (fun _ => rfl) _
  | retireEnd kind time lanes =>
    exact State.waitsInOrder_finishNotice hs (Applied.retire kind time lanes).steps.sameWork (fun _ => by simp) _
  | resetEnd time => exact State.waitsInOrder_finishNotice hs (Applied.abandon time).steps.sameWork (fun _ => by simp) _
  | retireConfirmed rest =>
    obtain ⟨p, stop⟩ := State.answerStop_withPorts
      (((((s.withQm { s.qm with toStage := rest }).withSc { s.sc with endTime := none }).showResult).raiseAll .songEnded))
    rw [stop, State.withPorts_qm, State.raiseAll_qm, State.showResult_qm]
    exact hs
  | startConfirmed | cueLost | resetConfirmed => exact hs
  | finalise => exact State.waitsInOrder_finalise hs _
  | saveEnd _ matched saving => obtain ⟨p, q, h, -⟩ := s.endSave_withPs matched saving; rw [h]; exact hs
  | resetBegins => exact ⟨fun _ => ⟨rfl, rfl, rfl⟩, fun _ h => nomatch h⟩
  | resetEnds => exact QueueManager.waitsInOrder_afterReset
  | _ =>
    simpa [State.receive, State.shiftOut, State.loadDone, State.endResult, State.frameStart, State.sample, State.micClip]
      using hs

theorem step_waitsInOrder {s t : State} (hs : s.qm.waitsInOrder) (run : step s = .next t) : t.qm.waitsInOrder :=
  step_keeps (P := fun u => u.qm.waitsInOrder) (fun _ _ h => h) (fun _ _ _ move kept => move.waitsInOrder kept) run hs

end Sys2Proof.Machine
end

section
/-! PROOFS. Which tickets stand PLAYING and CUED (R3), and what each operation of the QM makes of them. -/

namespace Sys2Proof.Machine

/-! ### The tickets in a state -/

/-- The tickets of the entries in a state, in queue order. -/
def ticketsIn (state : EntryState) (q : List Entry) : List Nat :=
  (q.filter (fun e => e.state == state)).map (fun e => e.ticket)

theorem mem_ticketsIn {state : EntryState} {q : List Entry} {t : Nat} :
    t ∈ ticketsIn state q ↔ ∃ e ∈ q, e.state = state ∧ e.ticket = t := by
  simp [ticketsIn, and_assoc]

theorem length_ticketsIn (state : EntryState) (q : List Entry) :
    (ticketsIn state q).length = q.countP (fun e => e.state == state) := by
  rw [ticketsIn, List.length_map, List.countP_eq_length_filter]

theorem ticketsIn_perm {q l : List Entry} (h : q.Perm l) (state : EntryState) :
    (ticketsIn state q).Perm (ticketsIn state l) := (h.filter _).map _

theorem ticketsIn_cons_same {state : EntryState} {e : Entry} (h : e.state = state) (q : List Entry) :
    ticketsIn state (e :: q) = e.ticket :: ticketsIn state q := by
  rw [ticketsIn, List.filter_cons_of_pos (by simp [h])]
  rfl

theorem ticketsIn_cons_other {state : EntryState} {e : Entry} (h : e.state ≠ state) (q : List Entry) :
    ticketsIn state (e :: q) = ticketsIn state q := by
  rw [ticketsIn, List.filter_cons_of_neg (by simp [h])]
  rfl

theorem ticketsIn_of_perm_same {q r : List Entry} {e : Entry} (perm : q.Perm (e :: r)) {state : EntryState}
    (h : e.state = state) : (ticketsIn state q).Perm (e.ticket :: ticketsIn state r) :=
  ticketsIn_cons_same h r ▸ ticketsIn_perm perm state

theorem ticketsIn_of_perm_other {q r : List Entry} {e : Entry} (perm : q.Perm (e :: r)) {state : EntryState}
    (h : e.state ≠ state) : (ticketsIn state q).Perm (ticketsIn state r) :=
  ticketsIn_cons_other h r ▸ ticketsIn_perm perm state

/-- An entry of the same ticket in the same state. -/
theorem ticketsIn_cons_congr {e e' : Entry} (ticket : e'.ticket = e.ticket) (same : e'.state = e.state)
    (state : EntryState) (q : List Entry) : ticketsIn state (e' :: q) = ticketsIn state (e :: q) := by
  by_cases h : e.state = state
  · rw [ticketsIn_cons_same h, ticketsIn_cons_same (same.trans h), ticket]
  · rw [ticketsIn_cons_other h, ticketsIn_cons_other (same ▸ h)]

theorem ticketsIn_nodup {q : List Entry} (distinct : (q.map (fun e => e.ticket)).Nodup) (state : EntryState) :
    (ticketsIn state q).Nodup := distinct.sublist (List.filter_sublist.map _)

/-- A ticket stands in one state. -/
theorem state_of_ticketsIn {q : List Entry} (distinct : (q.map (fun e => e.ticket)).Nodup) {a b : EntryState} {t : Nat}
    (ha : t ∈ ticketsIn a q) (hb : t ∈ ticketsIn b q) : a = b := by
  obtain ⟨e, he, rfl, ht⟩ := mem_ticketsIn.1 ha
  obtain ⟨k, hk, rfl, hkt⟩ := mem_ticketsIn.1 hb
  rw [List.inj_on_of_nodup_map distinct he hk (ht.trans hkt.symm)]

/-- An entry and the rest of a queue with distinct tickets. -/
theorem perm_cons_removeTicket {q : List Entry} (distinct : (q.map (fun e => e.ticket)).Nodup) {e : Entry} (mem : e ∈ q) :
    q.Perm (e :: removeTicket q e.ticket) := by
  have self : updateTicket q e.ticket (fun _ => e) = q := by
    refine (List.map_congr_left fun k hk => ?_).trans (List.map_id _)
    split
    · next same => exact (List.inj_on_of_nodup_map distinct hk mem same).symm
    · rfl
  exact (List.Perm.of_eq self.symm).trans (updateTicket_perm distinct mem e)

/-! ### What an operation leaves of them -/

/-- The tickets a drop names. -/
def SlotDrop.tickets : SlotDrop → List Nat
  | .none => []
  | .lost t => [t]
  | .given t => [t]

/-- The PLAYING tickets stay, and the CUED tickets are those that stay and those whose slots are dropped. -/
def CuesAfter (q l : List Entry) (d : SlotDrop) : Prop :=
  (ticketsIn .playing l).Perm (ticketsIn .playing q) ∧ (ticketsIn .cued q).Perm (d.tickets ++ ticketsIn .cued l)

theorem CuesAfter.refl (q : List Entry) : CuesAfter q q .none := ⟨.refl _, .refl _⟩

/-- An entry out of the way of the stage. -/
theorem Entry.not_onStage_of_waits {e : Entry} (h : e.waits = true) : e.state ≠ .playing ∧ e.state ≠ .cued := by
  constructor <;> intro state <;> simp [Entry.waits, state] at h

/-- Another entry stands where one stood, in the same state or waiting as it did. -/
theorem CuesAfter.replaced {q l : List Entry} (distinct : (q.map (fun e => e.ticket)).Nodup) {e e' : Entry} (mem : e ∈ q)
    (perm : l.Perm (e' :: removeTicket q e.ticket)) (ticket : e'.ticket = e.ticket)
    (state : e'.state = e.state ∨ (e.waits = true ∧ e'.waits = true)) : CuesAfter q l .none := by
  have same (st : EntryState) (onStage : st = .playing ∨ st = .cued) : (ticketsIn st l).Perm (ticketsIn st q) := by
    refine (ticketsIn_perm perm st).trans (.trans ?_ (ticketsIn_perm (perm_cons_removeTicket distinct mem) st).symm)
    obtain same | ⟨waits, waits'⟩ := state
    · rw [ticketsIn_cons_congr ticket same]
    · obtain ⟨hp, hc⟩ := e.not_onStage_of_waits waits
      obtain ⟨hp', hc'⟩ := e'.not_onStage_of_waits waits'
      obtain rfl | rfl := onStage
      · rw [ticketsIn_cons_other hp, ticketsIn_cons_other hp']
      · rw [ticketsIn_cons_other hc, ticketsIn_cons_other hc']
  exact ⟨same _ (.inl rfl), (same _ (.inr rfl)).symm⟩

theorem CuesAfter.updated {q : List Entry} (distinct : (q.map (fun e => e.ticket)).Nodup) {e e' : Entry} (mem : e ∈ q)
    (ticket : e'.ticket = e.ticket) (state : e'.state = e.state ∨ (e.waits = true ∧ e'.waits = true)) :
    CuesAfter q (updateTicket q e.ticket fun _ => e') .none :=
  .replaced distinct mem (updateTicket_perm distinct mem e') ticket state

theorem CuesAfter.moved {q l : List Entry} (distinct : (q.map (fun e => e.ticket)).Nodup) {e e' : Entry} (mem : e ∈ q)
    (joins : Joins (removeTicket q e.ticket) e' l) (ticket : e'.ticket = e.ticket) (waits : e.waits = true)
    (waits' : e'.waits = true) : CuesAfter q l .none :=
  .replaced distinct mem joins.perm ticket (.inr ⟨waits, waits'⟩)

theorem CuesAfter.joined {q l : List Entry} {e : Entry} (joins : Joins q e l) (waits : e.waits = true) :
    CuesAfter q l .none := by
  obtain ⟨hp, hc⟩ := e.not_onStage_of_waits waits
  exact ⟨ticketsIn_of_perm_other joins.perm hp, (ticketsIn_of_perm_other joins.perm hc).symm⟩

/-- An entry that is not PLAYING leaves the queue; a CUED one's slots are dropped. -/
theorem CuesAfter.removed {q : List Entry} (distinct : (q.map (fun e => e.ticket)).Nodup) {e : Entry} (mem : e ∈ q)
    (state : e.state ≠ .playing) :
    CuesAfter q (removeTicket q e.ticket) (if e.state = .cued then .lost e.ticket else .none) := by
  have perm := perm_cons_removeTicket distinct mem
  refine ⟨(ticketsIn_of_perm_other perm state).symm, ?_⟩
  by_cases cued : e.state = .cued
  · rw [if_pos cued]
    exact ticketsIn_of_perm_same perm cued
  · rw [if_neg cued]
    exact ticketsIn_of_perm_other perm cued

theorem CuesAfter.cleared (q : List Entry) : CuesAfter q (q.filter fun e => !e.waits) .none := by
  have same (st : EntryState) (onStage : st = .playing ∨ st = .cued) :
      ticketsIn st (q.filter fun e => !e.waits) = ticketsIn st q := by
    rw [ticketsIn, List.filter_filter, ticketsIn]
    congr 1
    refine List.filter_congr fun e _ => ?_
    obtain rfl | rfl := onStage <;> cases h : e.state <;> simp [Entry.waits, h]
  rw [CuesAfter, same _ (.inl rfl), same _ (.inr rfl)]
  exact ⟨.refl _, .refl _⟩

theorem ticketsIn_map (state : EntryState) (q : List Entry) (f : Entry → Entry)
    (h : ∀ e, (f e).ticket = e.ticket ∧ (f e).state = e.state) : ticketsIn state (q.map f) = ticketsIn state q := by
  induction q with
  | nil => rfl
  | cons e q ih =>
    rw [List.map_cons, ticketsIn_cons_congr (h e).1 (h e).2]
    by_cases hs : e.state = state
    · rw [ticketsIn_cons_same hs, ticketsIn_cons_same hs, ih]
    · rw [ticketsIn_cons_other hs, ticketsIn_cons_other hs, ih]

/-- The queue after the CUED entry returns: it waits, or its waiting repeat does. -/
theorem ticketsIn_returnCued {q : List Entry} (distinct : (q.map (fun e => e.ticket)).Nodup) {c : Entry}
    (cued : cuedEntry q = some c) :
    (ticketsIn .playing (returnCued q c)).Perm (ticketsIn .playing q)
      ∧ (ticketsIn .cued q).Perm (c.ticket :: ticketsIn .cued (returnCued q c)) := by
  obtain ⟨mem, state⟩ := mem_of_cuedEntry cued
  have perm := perm_cons_removeTicket distinct mem
  have rest : ∀ st : EntryState, st = .playing ∨ st = .cued →
      (ticketsIn st (returnCued q c)).Perm (ticketsIn st (removeTicket q c.ticket)) := by
    intro st onStage
    have other {e : Entry} (waits : e.waits = true) : e.state ≠ st := by
      obtain ⟨hp, hc⟩ := e.not_onStage_of_waits waits
      obtain rfl | rfl := onStage
      · exact hp
      · exact hc
    obtain ⟨-, he⟩ | ⟨a, found, he⟩ := returnCued_cases q c <;> rw [he]
    · exact ticketsIn_of_perm_other (joinClassHead_perm _ _) (other rfl)
    · obtain ⟨memA, waits, -⟩ := mem_of_waitingSong found
      have permA := perm_cons_removeTicket (distinct.sublist (List.filter_sublist.map _)) memA
      have back : (Entry.absorb { c with state := .waiting } a).waits = true := waits
      exact (ticketsIn_of_perm_other (joinClassHead_perm _ _) (other back)).trans
        (ticketsIn_of_perm_other permA (other waits)).symm
  refine ⟨(rest _ (.inl rfl)).trans (ticketsIn_of_perm_other perm (by simp [state])).symm,
    (ticketsIn_of_perm_same perm state).trans ((rest _ (.inr rfl)).symm.cons _)⟩

/-! ### Edit by edit -/

theorem QueueManager.applyAdd_cues (q : QueueManager) (distinct : (q.queue.map (fun e => e.ticket)).Nodup) (f : InFlight)
    (src : Source) (p : AddParams) : CuesAfter q.queue (q.applyAdd f src p).qm.queue (q.applyAdd f src p).drop := by
  cases h : waitingSong q.queue p.song with
  | none =>
    rw [QueueManager.applyAdd, h]
    simp only [QueueManager.enter]
    split
    · exact .refl _
    · refine .joined (e := q.freshEntry f src p) (?_ : Joins _ _ _) rfl
      split
      · exact .priorityTail
      · next h =>
        refine .normalTail ?_
        cases hc : (q.freshEntry f src p).cls with
        | normal => rfl
        | priority => exact absurd hc h
  | some e =>
    obtain ⟨mem, waits, -⟩ := mem_of_waitingSong h
    rw [QueueManager.applyAdd_waiting f src h rfl rfl rfl rfl]
    dsimp only [QueueManager.placed]
    split
    · exact .moved distinct (e' := { q.votedEntry src p e with cls := .priority }) mem .priorityTail rfl waits waits
    · exact .updated distinct mem rfl (.inl rfl)

theorem QueueManager.applyWithdraw_cues (q : QueueManager) (distinct : (q.queue.map (fun e => e.ticket)).Nodup)
    (f : InFlight) (src : Source) (ticket : Nat) :
    CuesAfter q.queue (q.applyWithdraw f src ticket).qm.queue (q.applyWithdraw f src ticket).drop := by
  unfold QueueManager.applyWithdraw
  split
  · exact .refl _
  · next e found =>
    obtain ⟨mem, rfl⟩ := ticket_of_findTicket found
    split
    · exact .refl _
    · next state =>
      split
      · dsimp only
        split
        · exact .removed distinct mem state
        · exact .updated distinct mem rfl (.inl rfl)
      · split
        · exact .removed distinct mem state
        · exact .refl _

theorem QueueManager.applyHold_cues (q : QueueManager) (distinct : (q.queue.map (fun e => e.ticket)).Nodup) (src : Source)
    (ticket : Nat) : CuesAfter q.queue (q.applyHold src ticket).qm.queue (q.applyHold src ticket).drop := by
  unfold QueueManager.applyHold
  split
  · exact .refl _
  · next e found =>
    obtain ⟨mem, rfl⟩ := ticket_of_findTicket found
    split
    · exact .refl _
    · next state =>
      have waits : e.waits = true := by simp_all [Entry.waits]
      split
      · exact .updated distinct mem rfl (.inr ⟨waits, rfl⟩)
      · exact .refl _

theorem QueueManager.applyRelease_cues (q : QueueManager) (distinct : (q.queue.map (fun e => e.ticket)).Nodup)
    (src : Source) (ticket : Nat) :
    CuesAfter q.queue (q.applyRelease src ticket).qm.queue (q.applyRelease src ticket).drop := by
  unfold QueueManager.applyRelease
  split
  · exact .refl _
  · next e found =>
    obtain ⟨mem, rfl⟩ := ticket_of_findTicket found
    split
    · exact .refl _
    · next state =>
      have waits : e.waits = true := by simp_all [Entry.waits]
      split
      · exact .updated distinct mem rfl (.inr ⟨waits, rfl⟩)
      · exact .refl _

theorem QueueManager.applyMove_cues (q : QueueManager) (distinct : (q.queue.map (fun e => e.ticket)).Nodup) (f : InFlight)
    (src : Source) (ticket : Nat) (cls : EntryClass) {join : List Entry → Entry → List Entry}
    (joins : ∀ l e, e.cls = cls → Joins l e (join l e)) :
    CuesAfter q.queue (q.applyMove f src ticket cls join).qm.queue (q.applyMove f src ticket cls join).drop := by
  unfold QueueManager.applyMove
  split
  · exact .refl _
  · split
    · exact .refl _
    · next e found =>
      obtain ⟨mem, rfl⟩ := ticket_of_findTicket found
      split
      · next waits => exact .moved distinct (e' := { e with cls := cls }) mem (joins _ _ rfl) rfl waits waits
      · exact .refl _

theorem QueueManager.applySingerAdd_cues (q : QueueManager) (src : Source) (name : List Nat) :
    CuesAfter q.queue (q.applySingerAdd src name).qm.queue (q.applySingerAdd src name).drop := by
  unfold QueueManager.applySingerAdd
  split
  · exact .refl _
  · split <;> exact .refl _

theorem QueueManager.applySingerDrop_cues (q : QueueManager) (src : Source) (n : Nat) :
    CuesAfter q.queue (q.applySingerDrop src n).qm.queue (q.applySingerDrop src n).drop := by
  have unnamed : CuesAfter q.queue (q.queue.map fun e => e.without n) .none := by
    rw [CuesAfter, ticketsIn_map _ _ (Entry.without · n) fun _ => ⟨rfl, rfl⟩,
      ticketsIn_map _ _ (Entry.without · n) fun _ => ⟨rfl, rfl⟩]
    exact ⟨.refl _, .refl _⟩
  unfold QueueManager.applySingerDrop
  split
  · exact .refl _
  · split
    · exact unnamed
    · exact .refl _

theorem QueueManager.applyUncue_cues (q : QueueManager) (distinct : (q.queue.map (fun e => e.ticket)).Nodup) :
    CuesAfter q.queue q.applyUncue.qm.queue q.applyUncue.drop := by
  unfold QueueManager.applyUncue
  split
  · exact .refl _
  · exact ticketsIn_returnCued distinct ‹_›

/-- What every edit leaves of the PLAYING and CUED tickets. -/
theorem QueueManager.applyEdit_cues (q : QueueManager) (distinct : (q.queue.map (fun e => e.ticket)).Nodup) (f : InFlight)
    (src : Source) (e : Edit) : CuesAfter q.queue (q.applyEdit f src e).qm.queue (q.applyEdit f src e).drop := by
  cases e with
  | add p => exact q.applyAdd_cues distinct f src p
  | withdraw t => exact q.applyWithdraw_cues distinct f src t
  | hold t => exact q.applyHold_cues distinct src t
  | release t => exact q.applyRelease_cues distinct src t
  | raise t => exact q.applyMove_cues distinct f src t .priority fun _ _ h => .priorityHead h
  | lower t => exact q.applyMove_cues distinct f src t .normal fun _ _ h => .normalTail h
  | uncue => exact q.applyUncue_cues distinct
  | clearQueue => exact .cleared _
  | singerAdd name => exact q.applySingerAdd_cues src name
  | singerDrop n => exact q.applySingerDrop_cues src n

/-! ### TAKE-NEXT and the stage notices -/

/-- TAKE-NEXT drops no slot; it leaves the CUED tickets, or cues one where there was none. -/
theorem QueueManager.applyTakeNext_cues (q : QueueManager) (distinct : (q.queue.map (fun e => e.ticket)).Nodup) :
    q.applyTakeNext.drop = .none ∧ (ticketsIn .playing q.applyTakeNext.qm.queue).Perm (ticketsIn .playing q.queue)
      ∧ (ticketsIn .cued q.applyTakeNext.qm.queue = ticketsIn .cued q.queue ∨ ticketsIn .cued q.queue = []) := by
  unfold QueueManager.applyTakeNext
  split
  · exact ⟨rfl, .refl _, .inl rfl⟩
  · next free =>
    split
    · exact ⟨rfl, .refl _, .inl rfl⟩
    · next e first =>
      have mem := List.mem_of_find?_eq_some first
      have state : e.state = .waiting := by simpa using List.find?_some first
      have none : ticketsIn .cued q.queue = [] := by
        refine List.eq_nil_iff_forall_not_mem.2 fun t ht => ?_
        obtain ⟨k, hk, cued, -⟩ := mem_ticketsIn.1 ht
        exact cuedEntry_eq_none_iff.1 (by simpa using free) k hk cued
      have perm := perm_cons_removeTicket distinct mem
      exact ⟨rfl, (ticketsIn_of_perm_other (joinAfterPlaying_perm _ { e with state := .cued }) (by simp)).trans
        (ticketsIn_of_perm_other perm (by simp [state])).symm, .inr none⟩

theorem ticketsIn_begun {q : List Entry} (distinct : (q.map (fun e => e.ticket)).Nodup) {e : Entry}
    (cued : cuedEntry q = some e) {l : List Entry}
    (hl : l = updateTicket q e.ticket fun _ => { e with state := .playing }) :
    (ticketsIn .playing l).Perm (e.ticket :: ticketsIn .playing q)
      ∧ (ticketsIn .cued q).Perm (e.ticket :: ticketsIn .cued l) := by
  obtain ⟨mem, state⟩ := mem_of_cuedEntry cued
  have perm := perm_cons_removeTicket distinct mem
  have perm' := updateTicket_perm distinct mem { e with state := .playing }
  rw [← hl] at perm'
  exact ⟨(ticketsIn_of_perm_same perm' rfl).trans ((ticketsIn_of_perm_other perm (by simp [state])).symm.cons _),
    (ticketsIn_of_perm_same perm state).trans ((ticketsIn_of_perm_other perm' (by simp)).symm.cons _)⟩

theorem ticketsIn_of_no_playingEntry {q : List Entry} (h : playingEntry q = none) : ticketsIn .playing q = [] := by
  refine List.eq_nil_iff_forall_not_mem.2 fun t ht => ?_
  obtain ⟨k, hk, playing, -⟩ := mem_ticketsIn.1 ht
  exact List.find?_eq_none.1 h k hk (by simp [playing])

/-- The PLAYING entry leaves: of at most one PLAYING ticket none is left, and the CUED tickets stay. -/
theorem QueueManager.retire_tickets (q : QueueManager) (distinct : (q.queue.map (fun e => e.ticket)).Nodup)
    (one : (ticketsIn .playing q.queue).length ≤ 1) (kind : EndKind) (time : Nat) (lanes : PerLane Finals) :
    ticketsIn .playing (q.retire kind time lanes).queue = []
      ∧ (ticketsIn .cued (q.retire kind time lanes).queue).Perm (ticketsIn .cued q.queue) := by
  unfold QueueManager.retire
  split
  · next none => exact ⟨ticketsIn_of_no_playingEntry none, .refl _⟩
  · next e playing =>
    obtain ⟨mem, state⟩ := mem_of_playingEntry playing
    have perm := perm_cons_removeTicket distinct mem
    have stage := (ticketsIn_of_perm_same perm state).length_eq
    rw [List.length_cons] at stage
    exact ⟨List.eq_nil_of_length_eq_zero (by dsimp only; omega), (ticketsIn_of_perm_other perm (by simp [state])).symm⟩

theorem QueueSteps.wellKept {q r : QueueManager} (h : QueueSteps q r) (hq : q.wellKept) : r.wellKept := by
  induction h with
  | refl => exact hq
  | tail _ last kept => exact last.wellKept kept

/-- After a RESET notice nothing is PLAYING. -/
theorem QueueManager.abandon_tickets (q : QueueManager) (kept : q.wellKept)
    (one : (ticketsIn .playing q.queue).length ≤ 1) (time : Nat) : ticketsIn .playing (q.abandon time).queue = [] := by
  have gone := (q.retire_tickets kept.distinct one .aborted time ⟨Finals.abandoned, Finals.abandoned⟩).1
  have kept' := (q.retire_steps .aborted time ⟨Finals.abandoned, Finals.abandoned⟩).wellKept kept
  unfold QueueManager.abandon
  dsimp only
  split
  · exact gone
  · next c cued => exact (gone ▸ (ticketsIn_returnCued kept'.distinct cued).1).eq_nil

end Sys2Proof.Machine
end

section
/-! PROOFS. How the queue, the slots, the stage and the Player's work in hand fit together (R3, R37, R44, R66, R164): each of
the three parts, and what keeps it. -/

namespace Sys2Proof.Machine

/-! ### The Player's work in hand (R157, R164) -/

/-- The Player's command that an operation carries. -/
def Operation.playerWork : Operation → List Command
  | .edit item => if item.source = .player then [item.edit.command] else []
  | .takeNext => [.takeNext]
  | .notice _ => []

/-- The Player's commands that wait in a backlog. -/
def backlogWork (l : List BacklogItem) : List Command :=
  (l.filter (fun item => item.source == .player)).map (fun item => item.edit.command)

/-- The Player's work at the QM. -/
def QueueManager.playerWork (q : QueueManager) : List Command :=
  q.inFlight.elim [] (fun f => f.op.playerWork) ++ backlogWork q.backlog
    ++ if q.takeNext.isSome then [.takeNext] else []

/-- The Player's work at the SL, the PS and the SC. -/
def State.ownerWork (s : State) : List Command :=
  (if s.sl.inFlight.isSome then [.loadData] else []) ++ (if s.ps.saving.isSome then [.profileSave] else [])
    ++ (if s.sc.stage = .starting then [.start] else []) ++ if s.sc.stage = .resetting then [.stageReset] else []

theorem State.playerWork_eq (s : State) : s.playerWork = s.qm.playerWork ++ s.ownerWork := by
  unfold State.playerWork QueueManager.playerWork State.ownerWork backlogWork
  simp only [← List.append_assoc]
  cases s.qm.inFlight with
  | none => rfl
  | some f =>
    obtain ⟨op, rights, threshold⟩ := f
    cases op <;> rfl

theorem backlogWork_cons (item : BacklogItem) (l : List BacklogItem) :
    backlogWork (item :: l) = (Operation.edit item).playerWork ++ backlogWork l := by
  by_cases h : item.source = .player <;> simp [backlogWork, Operation.playerWork, h]

theorem backlogWork_append_singleton (l : List BacklogItem) (item : BacklogItem) :
    backlogWork (l ++ [item]) = backlogWork l ++ (Operation.edit item).playerWork := by
  by_cases h : item.source = .player <;> simp [backlogWork, Operation.playerWork, h]

theorem QueueManager.sameWork.playerWork {q r : QueueManager} (h : q.sameWork r) : q.playerWork = r.playerWork := by
  obtain ⟨inFlight, backlog, takeNext, -, -⟩ := h
  rw [QueueManager.playerWork, inFlight, backlog, takeNext, ← QueueManager.playerWork]

/-- The QM with no operation in flight. -/
def QueueManager.released (q : QueueManager) : QueueManager := { q with inFlight := none }

theorem QueueManager.playerWork_inFlight {q : QueueManager} {f : InFlight} (h : q.inFlight = some f) :
    q.playerWork = f.op.playerWork ++ q.released.playerWork := by
  rw [QueueManager.playerWork, h]
  exact List.append_assoc _ _ _

/-- The arbiter's choice takes work that waits. -/
theorem Chosen.playerWork {q r : QueueManager} (h : Chosen q r) : r.playerWork.Perm q.released.playerWork := by
  cases h with
  | notice => exact .refl _
  | takeNext ahead _ _ _ waits =>
    simp only [QueueManager.playerWork, QueueManager.released, waits, Option.elim, Operation.playerWork, Option.isSome,
      Bool.false_eq_true, if_false, if_true, List.append_nil, List.nil_append]
    exact List.perm_append_comm
  | edit item rest _ _ _ oldest =>
    simp only [QueueManager.playerWork, QueueManager.released, oldest, backlogWork_cons, Option.elim, Option.isSome_map]
    exact .refl _
  | idle => exact .refl _

/-- What arrives joins the work. -/
theorem State.arrive_playerWork {s : State} {op : Operation} (free : op = .takeNext → s.qm.takeNext = none) :
    (s.arrive op).qm.playerWork.Perm (op.playerWork ++ s.qm.playerWork) := by
  obtain ⟨idle, he⟩ | ⟨-, ⟨item, rfl, he⟩ | ⟨rfl, he⟩ | ⟨n, rfl, he⟩⟩ := s.arrive_cases op <;> rw [he]
  · simp only [State.take, QueueManager.begin, QueueManager.playerWork, idle, Option.elim, State.withQm_qm,
      List.nil_append, List.append_assoc]
    exact .refl _
  · simp only [QueueManager.playerWork, State.withQm_qm, backlogWork_append_singleton, List.append_assoc]
    exact ((List.perm_append_comm_assoc _ _ _).append_left _).trans (List.perm_append_comm_assoc _ _ _)
  · simp only [QueueManager.playerWork, State.withQm_qm, free rfl, Option.isSome, Operation.playerWork]
    exact List.perm_append_comm.trans (by simp)
  · exact .refl _

/-- A command that is OUTSTANDING at the Player port stays so. -/
def State.keepsOutstanding (s t : State) : Prop :=
  ∀ code, s.ports.player.condition = .outstanding code → t.ports.player.condition = .outstanding code

theorem State.playerLinked_of_nil {s : State} (h : s.playerWork = []) : s.playerLinked := .inl h

theorem State.playerLinked_of_perm {s t : State} (hs : s.playerLinked) (perm : t.playerWork.Perm s.playerWork)
    (kept : s.keepsOutstanding t) : t.playerLinked := by
  obtain none | ⟨c, one, outstanding⟩ := hs
  · exact .inl (none ▸ perm).eq_nil
  · exact .inr ⟨c, List.perm_singleton.1 (one ▸ perm), kept _ outstanding⟩

theorem State.playerLinked_of_one {s : State} {c : Command} (h : s.playerWork.Perm [c])
    (outstanding : s.ports.player.condition = .outstanding c.code) : s.playerLinked :=
  .inr ⟨c, List.perm_singleton.1 h, outstanding⟩

/-- A FREE port has no work in hand. -/
theorem State.playerLinked.nil_of_free {s : State} (h : s.playerLinked) (free : s.ports.player.condition = .free) :
    s.playerWork = [] := by
  obtain none | ⟨c, -, outstanding⟩ := h
  · exact none
  · cases free.symm.trans outstanding

/-- There is no work beside a piece of it. -/
theorem State.playerLinked.nil_of_cons {s : State} (h : s.playerLinked) {c : Command} {rest : List Command}
    (work : s.playerWork.Perm (c :: rest)) : rest = [] := by
  obtain none | ⟨d, one, -⟩ := h
  · exact absurd (none ▸ work).symm.eq_nil (List.cons_ne_nil _ _)
  · exact (List.cons.inj (List.perm_singleton.1 (one ▸ work).symm)).2

/-! ### The slots and the queue (R3, R37, R44) -/

/-- The slots against the tickets that are PLAYING and CUED. -/
structure SlotsFit (playing cued : List Nat) (sl : SongLoader) : Prop where
  one : playing.length ≤ 1
  listed : ∀ n g, sl.get n = .playing g → g.ticket ∈ playing
  played : ∀ t ∈ playing, ∃ n g, sl.get n = .playing g ∧ g.ticket = t
  cued : ∀ n t, (sl.get n).ticket = some t → (sl.get n).isPlaying = false → t ∈ cued
  apart : ∀ n m t, (sl.get n).ticket = some t → (sl.get m).ticket = some t → n = m

theorem State.slotsLinked_iff (s : State) :
    s.slotsLinked ↔ SlotsFit (ticketsIn .playing s.qm.queue) (ticketsIn .cued s.qm.queue) s.sl := by
  have apart : (∀ t, s.sl.slotA.ticket = some t → s.sl.slotB.ticket ≠ some t)
      ↔ ∀ n m t, (s.sl.get n).ticket = some t → (s.sl.get m).ticket = some t → n = m := by
    refine ⟨fun h n m t hn hm => ?_, fun h t ha hb => nomatch h .a .b t ha hb⟩
    cases n <;> cases m
    · rfl
    · exact absurd hm (h t hn)
    · exact absurd hn (h t hm)
    · rfl
  unfold State.slotsLinked QueueManager.playingCount
  rw [← length_ticketsIn, apart]
  refine ⟨fun ⟨one, listed, played, cued, apart⟩ => ⟨one, fun n g hg => mem_ticketsIn.2 (listed n g hg), fun t ht => ?_,
      fun n t ht idle => mem_ticketsIn.2 (cued n t ht idle), apart⟩,
    fun ⟨one, listed, played, cued, apart⟩ => ⟨one, fun n g hg => mem_ticketsIn.1 (listed n g hg), fun e he state => ?_,
      fun n t ht idle => mem_ticketsIn.1 (cued n t ht idle), apart⟩⟩
  · obtain ⟨e, he, state, rfl⟩ := mem_ticketsIn.1 ht
    exact played e he state
  · exact played e.ticket (mem_ticketsIn.2 ⟨e, he, state, rfl⟩)

/-- The same slots against more CUED tickets. -/
theorem SlotsFit.mono {p p' c c' : List Nat} {sl sl' : SongLoader} (h : SlotsFit p c sl) (perm : p'.Perm p)
    (cued : ∀ t ∈ c, t ∈ c') (same : ∀ n, sl'.get n = sl.get n) : SlotsFit p' c' sl' where
  one := perm.length_eq ▸ h.one
  listed n g hg := perm.mem_iff.2 (h.listed n g (same n ▸ hg))
  played t ht := by
    obtain ⟨n, g, hg, hgt⟩ := h.played t (perm.mem_iff.1 ht)
    exact ⟨n, g, (same n).trans hg, hgt⟩
  cued n t ht idle := cued t (h.cued n t (same n ▸ ht) (same n ▸ idle))
  apart n m t hn hm := h.apart n m t (same n ▸ hn) (same m ▸ hm)

/-- Slots that are not PLAYING are dropped, and those that stay carry a ticket that is still CUED. -/
theorem SlotsFit.dropped {p c c' : List Nat} {sl sl' : SongLoader} (h : SlotsFit p c sl) {test : Slot → Bool}
    (drops : ∀ n, sl'.get n = if test (sl.get n) then .empty else sl.get n)
    (spares : ∀ g, g.ticket ∈ p → test (.playing g) = false)
    (covers : ∀ n, ∀ t ∈ c, (sl.get n).ticket = some t → test (sl.get n) = false → t ∈ c') : SlotsFit p c' sl' := by
  have stays {n : SlotName} (kept : sl'.get n ≠ .empty) : sl'.get n = sl.get n ∧ test (sl.get n) = false := by
    rw [drops] at kept ⊢
    cases ht : test (sl.get n) with
    | true => simp [ht] at kept
    | false => exact ⟨by simp, rfl⟩
  have named {n : SlotName} {t : Nat} (ht : (sl'.get n).ticket = some t) : sl'.get n ≠ .empty := by
    intro empty
    rw [empty] at ht
    cases ht
  refine ⟨h.one, fun n g hg => ?_, fun t ht => ?_, fun n t ht idle => ?_, fun n m t hn hm => ?_⟩
  · exact h.listed n g ((stays (by rw [hg]; exact nofun)).1 ▸ hg)
  · obtain ⟨n, g, hg, rfl⟩ := h.played t ht
    refine ⟨n, g, ?_, rfl⟩
    rw [drops, hg, spares g ht]
    rfl
  · obtain ⟨same, kept⟩ := stays (named ht)
    rw [same] at ht idle
    exact covers n t (h.cued n t ht idle) ht kept
  · exact h.apart n m t ((stays (named hn)).1 ▸ hn) ((stays (named hm)).1 ▸ hm)

/-- The PLAYING slot is dropped with the PLAYING ticket. -/
theorem SlotsFit.retired {p c c' : List Nat} {sl sl' : SongLoader} (h : SlotsFit p c sl)
    (drops : ∀ n, sl'.get n = if (sl.get n).isPlaying then .empty else sl.get n) (cued : ∀ t ∈ c, t ∈ c') :
    SlotsFit [] c' sl' := by
  have stays {n : SlotName} (kept : sl'.get n ≠ .empty) : sl'.get n = sl.get n ∧ (sl.get n).isPlaying = false := by
    rw [drops] at kept ⊢
    cases ht : (sl.get n).isPlaying with
    | true => simp [ht] at kept
    | false => exact ⟨by simp, rfl⟩
  have named {n : SlotName} {t : Nat} (ht : (sl'.get n).ticket = some t) : sl'.get n ≠ .empty := by
    intro empty
    rw [empty] at ht
    cases ht
  refine ⟨Nat.zero_le _, fun n g hg => ?_, List.forall_mem_nil _, fun n t ht idle => ?_, fun n m t hn hm => ?_⟩
  · obtain ⟨same, idle⟩ := stays (n := n) (by rw [hg]; exact nofun)
    rw [← same, hg] at idle
    cases idle
  · obtain ⟨same, kept⟩ := stays (named ht)
    exact cued t (h.cued n t (same ▸ ht) kept)
  · exact h.apart n m t ((stays (named hn)).1 ▸ hn) ((stays (named hm)).1 ▸ hm)

theorem SlotsFit.of_empty {c : List Nat} {sl : SongLoader} (h : ∀ n, sl.get n = .empty) : SlotsFit [] c sl where
  one := Nat.zero_le _
  listed n g hg := by rw [h n] at hg; cases hg
  played := List.forall_mem_nil _
  cued n t ht := by rw [h n] at ht; cases ht
  apart n m t hn := by rw [h n] at hn; cases hn

/-- A slot that is not PLAYING takes another state, EMPTY or with a CUED ticket that no other slot carries. -/
theorem SlotsFit.set {p c : List Nat} {sl : SongLoader} (h : SlotsFit p c sl) {n : SlotName} {new : Slot}
    (idle : (sl.get n).isPlaying = false) (idle' : new.isPlaying = false) (cued : ∀ t, new.ticket = some t → t ∈ c)
    (apart : ∀ m t, m ≠ n → new.ticket = some t → (sl.get m).ticket ≠ some t) : SlotsFit p c (sl.set n new) := by
  have other {m : SlotName} (hm : m ≠ n) : (sl.set n new).get m = sl.get m := sl.get_set_other n m new hm
  refine ⟨h.one, fun m g hg => ?_, fun t ht => ?_, fun m t ht hidle => ?_, fun m k t hm hk => ?_⟩
  · by_cases same : m = n
    · subst same
      rw [SongLoader.get_set_same] at hg
      rw [hg] at idle'
      cases idle'
    · exact h.listed m g (other same ▸ hg)
  · obtain ⟨m, g, hg, hgt⟩ := h.played t ht
    have ne : m ≠ n := by
      rintro rfl
      rw [hg] at idle
      cases idle
    exact ⟨m, g, (other ne).trans hg, hgt⟩
  · by_cases same : m = n
    · subst same
      rw [SongLoader.get_set_same] at ht
      exact cued t ht
    · rw [other same] at ht hidle
      exact h.cued m t ht hidle
  · by_cases sameM : m = n <;> by_cases sameK : k = n
    · exact sameM.trans sameK.symm
    · subst sameM
      rw [SongLoader.get_set_same] at hm
      rw [other sameK] at hk
      exact absurd hk (apart k t sameK hm)
    · subst sameK
      rw [SongLoader.get_set_same] at hk
      rw [other sameM] at hm
      exact absurd hm (apart m t sameM hk)
    · exact h.apart m k t (other sameM ▸ hm) (other sameK ▸ hk)

/-! ### The stage and what is on its way (R66) -/

theorem State.stageLinked_congr {s t : State} (hs : s.stageLinked) (stage : t.sc.stage = s.sc.stage)
    (pending : t.sc.pendingStart = s.sc.pendingStart) (way : t.qm.onItsWay = s.qm.onItsWay)
    (playing : t.qm.playingCount = s.qm.playingCount)
    (ready : s.sc.stage = .starting → ∀ k, s.cueReady k → t.cueReady k) : t.stageLinked := by
  unfold State.stageLinked at hs ⊢
  rw [stage, pending, way, playing]
  cases at' : s.sc.stage with
  | starting =>
    simp only [at'] at hs ⊢
    obtain ⟨p, waits, ⟨on, none, cue⟩ | rest⟩ := hs
    · exact ⟨p, waits, .inl ⟨on, none, ready at' _ cue⟩⟩
    · exact ⟨p, waits, .inr rest⟩
  | _ => simpa only [at'] using hs

theorem QueueManager.playingCount_eq (q : QueueManager) : q.playingCount = (ticketsIn .playing q.queue).length :=
  (length_ticketsIn _ _).symm

theorem State.cueReady_iff (s : State) (t : Nat) :
    s.cueReady t ↔ (t ∈ ticketsIn .cued s.qm.queue → ∃ n g, s.sl.get n = .loaded g ∧ g.ticket = t) := by
  rw [mem_ticketsIn]
  rfl

end Sys2Proof.Machine
end

section
/-! PROOFS. The three parts of `State.linked` under the shared operations: quiet changes, answers, arrivals, drops, and the
ends of operations. -/

namespace Sys2Proof.Machine

/-! ### Work that begins and ends at an owner (R164) -/

section
variable {s t : State} (qm : t.qm.playerWork = s.qm.playerWork)
include qm

theorem State.playerWork_congr (loads : t.sl.inFlight.isSome = s.sl.inFlight.isSome)
    (saves : t.ps.saving.isSome = s.ps.saving.isSome) (starts : t.sc.stage = .starting ↔ s.sc.stage = .starting)
    (resets : t.sc.stage = .resetting ↔ s.sc.stage = .resetting) : t.playerWork = s.playerWork := by
  simp only [State.playerWork_eq, State.ownerWork, qm, loads, saves, starts, resets]

theorem State.playerWork_loads (saves : t.ps.saving.isSome = s.ps.saving.isSome) (stage : t.sc.stage = s.sc.stage)
    (free : s.sl.inFlight = none) (busy : t.sl.inFlight.isSome = true) :
    t.playerWork.Perm (.loadData :: s.playerWork) := by
  simp only [State.playerWork_eq, State.ownerWork, qm, saves, stage, free, busy, if_true, Option.isSome_none,
    Bool.false_eq_true, if_false, List.nil_append, List.append_assoc, List.singleton_append]
  exact List.perm_middle

theorem State.playerWork_saves (loads : t.sl.inFlight.isSome = s.sl.inFlight.isSome) (stage : t.sc.stage = s.sc.stage)
    (free : s.ps.saving = none) (busy : t.ps.saving.isSome = true) :
    t.playerWork.Perm (.profileSave :: s.playerWork) := by
  simp only [State.playerWork_eq, State.ownerWork, qm, loads, stage, free, busy, if_true, Option.isSome_none,
    Bool.false_eq_true, if_false, List.nil_append, List.append_assoc, List.singleton_append]
  exact (List.perm_middle.append_left _).trans List.perm_middle

theorem State.playerWork_starts (loads : t.sl.inFlight.isSome = s.sl.inFlight.isSome)
    (saves : t.ps.saving.isSome = s.ps.saving.isSome) (free : s.sc.stage ≠ .starting) (still : s.sc.stage ≠ .resetting)
    (starting : t.sc.stage = .starting) : t.playerWork.Perm (.start :: s.playerWork) := by
  have other : t.sc.stage ≠ .resetting := by rw [starting]; exact nofun
  simp only [State.playerWork_eq, State.ownerWork, qm, loads, saves, if_neg free, if_neg still, if_pos starting,
    if_neg other, List.append_nil]
  rw [← List.append_assoc]
  exact List.perm_append_comm

theorem State.playerWork_resets (loads : t.sl.inFlight.isSome = s.sl.inFlight.isSome)
    (saves : t.ps.saving.isSome = s.ps.saving.isSome) (free : s.sc.stage ≠ .starting) (still : s.sc.stage ≠ .resetting)
    (resetting : t.sc.stage = .resetting) : t.playerWork.Perm (.stageReset :: s.playerWork) := by
  have other : t.sc.stage ≠ .starting := by rw [resetting]; exact nofun
  simp only [State.playerWork_eq, State.ownerWork, qm, loads, saves, if_neg free, if_neg still, if_pos resetting,
    if_neg other, List.append_nil]
  rw [← List.append_assoc]
  exact List.perm_append_comm

end

/-- A Player with no work in hand has none at any owner. -/
theorem State.owners_of_nil {s : State} (h : s.playerWork = []) :
    s.qm.playerWork = [] ∧ s.qm.takeNext = none ∧ s.sl.inFlight = none ∧ s.ps.saving = none ∧ s.sc.stage ≠ .starting
      ∧ s.sc.stage ≠ .resetting := by
  rw [State.playerWork_eq, List.append_eq_nil_iff] at h
  obtain ⟨qm, owners⟩ := h
  have takeNext : s.qm.takeNext = none := by simpa using (List.append_eq_nil_iff.1 qm).2
  exact ⟨qm, takeNext, by simpa [State.ownerWork] using owners⟩

/-! ### The parts together -/

/-- The queue, the slots, the stage and the Player's work in hand fit together. -/
structure State.Links (s : State) : Prop where
  stage : s.stageLinked
  slots : s.slotsLinked
  work : s.playerLinked

/-- They fit together as the command of a port is about to be answered: the Player's has no other work in hand. -/
structure State.LinksBut (src : Source) (s : State) : Prop where
  stage : s.stageLinked
  slots : s.slotsLinked
  none : src = .player → s.playerWork = []
  work : src ≠ .player → s.playerLinked

/-- A state with the stage, the QM, the slots and the work in hand of another. -/
structure State.Untouched (s t : State) : Prop where
  stage : t.sc.stage = s.sc.stage
  pending : t.sc.pendingStart = s.sc.pendingStart
  qm : t.qm = s.qm
  sl : t.sl = s.sl
  saving : t.ps.saving = s.ps.saving

namespace State.Untouched

variable {s t : State} (h : s.Untouched t)
include h

theorem cueReady (k : Nat) (hs : s.cueReady k) : t.cueReady k := by
  unfold State.cueReady at hs ⊢
  rwa [h.qm, h.sl]

theorem stageLinked (hs : s.stageLinked) : t.stageLinked :=
  State.stageLinked_congr hs h.stage h.pending (congrArg _ h.qm) (congrArg _ h.qm) fun _ => h.cueReady

theorem slotsLinked (hs : s.slotsLinked) : t.slotsLinked := by
  unfold State.slotsLinked at hs ⊢
  rwa [h.qm, h.sl]

theorem playerWork : t.playerWork = s.playerWork :=
  State.playerWork_congr (congrArg _ h.qm) (by rw [h.sl]) (by rw [h.saving]) (by rw [h.stage]) (by rw [h.stage])

theorem links (kept : s.keepsOutstanding t) (hs : s.Links) : t.Links :=
  ⟨h.stageLinked hs.stage, h.slotsLinked hs.slots, State.playerLinked_of_perm hs.work (.of_eq h.playerWork) kept⟩

theorem linksBut {src : Source} (kept : src ≠ .player → s.keepsOutstanding t) (hs : s.LinksBut src) : t.LinksBut src :=
  ⟨h.stageLinked hs.stage, h.slotsLinked hs.slots, fun player => h.playerWork.trans (hs.none player),
    fun panel => State.playerLinked_of_perm (hs.work panel) (.of_eq h.playerWork) (kept panel)⟩

end State.Untouched

/-! ### Answers (R164) -/

theorem State.keepsOutstanding_of_eq {s t : State} (h : t.ports.player.condition = s.ports.player.condition) :
    s.keepsOutstanding t := fun _ outstanding => h.trans outstanding

theorem State.answer_untouched (s : State) (src : Source) (c : Command) (a : Answer) : s.Untouched (s.answer src c a) :=
  ⟨by simp, by simp, by simp, by simp, by simp⟩

theorem State.answer_keepsOutstanding (s : State) {src : Source} (panel : src ≠ .player) (c : Command) (a : Answer) :
    s.keepsOutstanding (s.answer src c a) :=
  State.keepsOutstanding_of_eq (congrArg Port.condition (State.port_answer_other s src .player c a panel.symm))

theorem State.LinksBut.answer {src : Source} {s : State} (h : s.LinksBut src) (c : Command) (a : Answer) :
    (s.answer src c a).Links := by
  have same := s.answer_untouched src c a
  refine ⟨same.stageLinked h.stage, same.slotsLinked h.slots, ?_⟩
  by_cases player : src = .player
  · exact State.playerLinked_of_nil (same.playerWork.trans (h.none player))
  · exact State.playerLinked_of_perm (h.work player) (.of_eq same.playerWork) (s.answer_keepsOutstanding player c a)

theorem State.LinksBut.of_links {src : Source} {s : State} (panel : src ≠ .player) (h : s.Links) : s.LinksBut src :=
  ⟨h.stage, h.slots, fun player => absurd player panel, fun _ => h.work⟩

/-! ### Arrivals (R29 to R32) -/

/-- The token of a notice, where the operation is one. -/
def Operation.tokens : Operation → List Token
  | .notice n => [n.token]
  | _ => []

theorem QueueManager.onItsWay_inFlight {q : QueueManager} {f : InFlight} (h : q.inFlight = some f) :
    q.onItsWay = q.toStage.map Confirmation.token ++ f.op.tokens ++ q.notices.map Notice.token := by
  rw [QueueManager.onItsWay, QueueManager.noticeInFlight, h]
  obtain ⟨op, rights, threshold⟩ := f
  cases op <;> rfl

theorem QueueManager.onItsWay_idle {q : QueueManager} (h : q.inFlight = none) :
    q.onItsWay = q.toStage.map Confirmation.token ++ q.notices.map Notice.token := by
  rw [QueueManager.onItsWay, QueueManager.noticeInFlight, h]
  simp

/-- What arrives is last on its way. -/
theorem State.arrive_onItsWay {s : State} (waits : s.qm.waitsInOrder) (op : Operation) :
    (s.arrive op).qm.onItsWay = s.qm.onItsWay ++ op.tokens := by
  obtain ⟨idle, he⟩ | ⟨busy, ⟨item, rfl, he⟩ | ⟨rfl, he⟩ | ⟨n, rfl, he⟩⟩ := s.arrive_cases op <;> rw [he]
  · obtain ⟨-, -, notices⟩ := waits.1 idle
    rw [QueueManager.onItsWay_idle idle, notices, QueueManager.onItsWay_inFlight rfl]
    simp [State.take, QueueManager.begin, notices]
  · exact (List.append_nil _).symm
  · exact (List.append_nil _).symm
  · obtain ⟨f, hf⟩ := Option.ne_none_iff_exists'.1 busy
    rw [QueueManager.onItsWay_inFlight hf, QueueManager.onItsWay_inFlight (f := f) (by exact hf)]
    simp [Operation.tokens]

theorem State.arrive_queue (s : State) (op : Operation) : (s.arrive op).qm.queue = s.qm.queue :=
  (s.arrive_sameApplied op).1

theorem State.arrive_slotsLinked {s : State} (h : s.slotsLinked) (op : Operation) : (s.arrive op).slotsLinked := by
  unfold State.slotsLinked QueueManager.playingCount at h ⊢
  rwa [State.arrive_queue, State.arrive_sl]

theorem State.arrive_cueReady {s : State} {k : Nat} (h : s.cueReady k) (op : Operation) : (s.arrive op).cueReady k := by
  unfold State.cueReady at h ⊢
  rwa [State.arrive_queue, State.arrive_sl]

theorem State.arrive_playingCount (s : State) (op : Operation) : (s.arrive op).qm.playingCount = s.qm.playingCount := by
  rw [QueueManager.playingCount, State.arrive_queue, QueueManager.playingCount]

/-- An edit or TAKE-NEXT that arrives leaves the stage. -/
theorem State.arrive_stageLinked {s : State} (waits : s.qm.waitsInOrder) (h : s.stageLinked) {op : Operation}
    (edit : op.tokens = []) : (s.arrive op).stageLinked := by
  refine State.stageLinked_congr h (by simp) (by simp) ?_ (s.arrive_playingCount op) fun _ k hk => State.arrive_cueReady hk op
  rw [State.arrive_onItsWay waits, edit, List.append_nil]

theorem State.ownerWork_congr {s t : State} (loads : t.sl.inFlight = s.sl.inFlight) (saves : t.ps.saving = s.ps.saving)
    (stage : t.sc.stage = s.sc.stage) : t.ownerWork = s.ownerWork := by
  simp only [State.ownerWork, loads, saves, stage]

theorem State.arrive_ownerWork (s : State) (op : Operation) : (s.arrive op).ownerWork = s.ownerWork :=
  State.ownerWork_congr (by simp) (by simp) (by simp)

theorem State.arrive_work {s : State} {op : Operation} (free : op = .takeNext → s.qm.takeNext = none) :
    (s.arrive op).playerWork.Perm (op.playerWork ++ s.playerWork) := by
  rw [State.playerWork_eq, State.playerWork_eq, State.arrive_ownerWork, ← List.append_assoc]
  exact (State.arrive_playerWork free).append_right _

/-! ### Drops (R40, R62) -/

/-- The test of the slots an edit drops. -/
def SlotDrop.drops (d : SlotDrop) (c : Slot) : Bool := d.tickets.any fun t => carriesTicket t c

theorem State.applyDrop_slot (s : State) (d : SlotDrop) (n : SlotName) :
    (s.applyDrop d).sl.get n = if d.drops (s.sl.get n) then .empty else s.sl.get n := by
  cases d with
  | none => rfl
  | lost t =>
    show ((s.dropSlots (carriesTicket t)).raisePlayer .cueLost).sl.get n = _
    rw [State.raisePlayer, State.modifyPort_sl, State.dropSlots_slot]
    simp [SlotDrop.drops, SlotDrop.tickets]
  | given t =>
    show (s.dropSlots (carriesTicket t)).sl.get n = _
    rw [State.dropSlots_slot]
    simp [SlotDrop.drops, SlotDrop.tickets]

/-- A drop leaves the Player's work, or ends the LOAD-DATA that was all of it. -/
theorem State.dropSlots_playerLinked {s : State} (h : s.playerLinked) (test : Slot → Bool) :
    (s.dropSlots test).playerLinked := by
  cases cut : s.sl.loadCut test with
  | false =>
    rw [State.dropSlots_of_kept cut]
    exact State.playerLinked_of_perm h (.of_eq rfl) fun _ outstanding => outstanding
  | true =>
    rw [State.dropSlots_of_cut cut]
    have loads : s.sl.inFlight.isSome = true := by
      cases free : s.sl.inFlight with
      | some _ => rfl
      | none => rw [SongLoader.loadCut, free] at cut; cases cut
    have work := State.playerWork_loads (s := s.withSl { s.sl.dropWhere test with inFlight := none }) (t := s) rfl rfl rfl rfl
      loads
    exact State.playerLinked_of_nil ((State.answer_untouched _ _ _ _).playerWork.trans (h.nil_of_cons work))

theorem State.applyDrop_playerLinked {s : State} (h : s.playerLinked) (d : SlotDrop) : (s.applyDrop d).playerLinked := by
  cases d with
  | none => exact h
  | given t => exact State.dropSlots_playerLinked h _
  | lost t => exact State.dropSlots_playerLinked h (carriesTicket t)

/-! ### The end of an operation (R28, R33) -/

theorem Chosen.onItsWay {q r : QueueManager} (h : Chosen q r) : r.onItsWay = q.released.onItsWay := by
  rw [QueueManager.onItsWay_idle (q := q.released) rfl]
  cases h with
  | notice n rest _ _ first =>
    rw [QueueManager.onItsWay_inFlight rfl]
    simp [QueueManager.released, Operation.tokens, first]
  | takeNext =>
    rw [QueueManager.onItsWay_inFlight rfl]
    simp [QueueManager.released, Operation.tokens]
  | edit =>
    rw [QueueManager.onItsWay_inFlight rfl]
    simp [QueueManager.released, Operation.tokens]
  | idle => exact QueueManager.onItsWay_idle rfl

/-- What the arbiter chooses fits where the QM fits with its ended operation taken away. -/
theorem State.arbitrate_links {u : State} (h : (u.withQm u.qm.released).Links) : u.arbitrate.Links := by
  have chosen := u.arbitrate_chosen
  have queue : u.arbitrate.qm.queue = u.qm.queue := u.arbitrate_sameApplied.1
  refine ⟨State.stageLinked_congr h.stage (by simp) (by simp) chosen.onItsWay ?_ fun _ k hk => ?_, ?_, ?_⟩
  · rw [QueueManager.playingCount, queue]
    rfl
  · unfold State.cueReady at hk ⊢
    rw [queue, State.arbitrate_sl]
    exact hk
  · rw [State.slotsLinked_iff, queue, State.arbitrate_sl]
    exact (State.slotsLinked_iff _).1 h.slots
  · refine State.playerLinked_of_perm h.work ?_ fun code outstanding => ?_
    · rw [State.playerWork_eq, State.playerWork_eq]
      exact (chosen.playerWork.append_right _).trans
        (.of_eq (congrArg _ (State.ownerWork_congr (by simp) (by simp) (by simp))))
    · rw [State.arbitrate_ports]
      exact outstanding

theorem State.noteChange_condition (s : State) (q : QueueManager) :
    (s.noteChange q).ports.player.condition = s.ports.player.condition := by
  unfold State.noteChange
  split <;> rfl

theorem State.noteChange_untouched (s : State) (q : QueueManager) : s.Untouched (s.noteChange q) :=
  ⟨by simp, by simp, by simp, by simp, by simp⟩

theorem State.playerWork_of_inFlight {s : State} {f : InFlight} (h : s.qm.inFlight = some f) :
    s.playerWork = f.op.playerWork ++ (s.withQm s.qm.released).playerWork := by
  rw [State.playerWork_eq, QueueManager.playerWork_inFlight h, List.append_assoc, State.playerWork_eq]
  rfl

/-- An answered operation is taken from the work in hand. -/
theorem State.released_playerLinked {s : State} {src : Source} (linked : s.playerLinked) {f : InFlight}
    (inFlight : s.qm.inFlight = some f) (player : src = .player → ∃ d, f.op.playerWork = [d])
    (panel : src ≠ .player → f.op.playerWork = []) (c : Command) (a : Answer) :
    ((s.answer src c a).withQm (s.answer src c a).qm.released).playerLinked := by
  have work := State.playerWork_of_inFlight inFlight
  have same : ((s.answer src c a).withQm (s.answer src c a).qm.released).playerWork
      = (s.withQm s.qm.released).playerWork := by
    rw [State.playerWork_eq, State.playerWork_eq, State.answer_qm]
    exact congrArg _ (State.ownerWork_congr (by simp) (by simp) (by simp))
  by_cases own : src = .player
  · obtain ⟨d, hd⟩ := player own
    exact State.playerLinked_of_nil (same.trans (linked.nil_of_cons (.of_eq (work.trans (congrArg (· ++ _) hd)))))
  · refine State.playerLinked_of_perm linked (.of_eq ?_) fun code outstanding => ?_
    · rw [same, work, panel own, List.nil_append]
    · exact s.answer_keepsOutstanding own c a code outstanding

theorem State.withQm_playerLinked {s : State} (h : s.playerLinked) {q : QueueManager} (same : q.sameWork s.qm) :
    (s.withQm q).playerLinked :=
  State.playerLinked_of_perm h
    (.of_eq (State.playerWork_congr (t := s.withQm q) same.playerWork rfl rfl Iff.rfl Iff.rfl)) fun _ outstanding => outstanding

/-- The end of an edit or TAKE-NEXT. -/
theorem State.finish_links {s : State} {src : Source} {c : Command} {o : Outcome} {f : InFlight} (links : s.Links)
    (same : o.qm.sameWork s.qm) (inFlight : s.qm.inFlight = some f)
    (player : src = .player → ∃ d, f.op.playerWork = [d]) (panel : src ≠ .player → f.op.playerWork = [])
    (edit : f.op.tokens = []) (playing : o.qm.playingCount = s.qm.playingCount)
    (fits : SlotsFit (ticketsIn .playing o.qm.queue) (ticketsIn .cued o.qm.queue) ((s.withQm o.qm).applyDrop o.drop).sl)
    (ready : s.sc.stage = .starting → ∀ k, s.cueReady k → k ∈ ticketsIn .cued o.qm.queue →
      ∃ n g, ((s.withQm o.qm).applyDrop o.drop).sl.get n = .loaded g ∧ g.ticket = k) :
    (s.finish src c o).Links := by
  have linked : ((s.withQm o.qm).applyDrop o.drop).playerLinked :=
    State.applyDrop_playerLinked (State.withQm_playerLinked links.work same) o.drop
  unfold State.finish
  generalize hy : (s.withQm o.qm).applyDrop o.drop = y at linked fits ready
  have yqm : y.qm = o.qm := by rw [← hy]; simp
  have ysc : y.sc = s.sc := by rw [← hy]; simp
  have noted := y.noteChange_untouched s.qm
  have linked' : (y.noteChange s.qm).playerLinked :=
    State.playerLinked_of_perm linked (.of_eq noted.playerWork) (State.keepsOutstanding_of_eq (y.noteChange_condition _))
  have released := State.released_playerLinked (src := src) linked' (f := f)
    (by rw [noted.qm, yqm]; exact same.1.trans inFlight) player panel c o.answer
  refine State.arbitrate_links ?_
  generalize hu : (y.noteChange s.qm).answer src c o.answer = u at released
  have uqm : u.qm = o.qm := by rw [← hu]; simpa using yqm
  have usc : u.sc = s.sc := by rw [← hu]; simpa using ysc
  have usl : u.sl = y.sl := by rw [← hu]; simp
  refine ⟨State.stageLinked_congr links.stage (congrArg _ usc) (congrArg _ usc) ?_ ?_ fun starting k hk => ?_, ?_, released⟩
  · rw [State.withQm_qm, uqm, QueueManager.onItsWay_idle rfl, QueueManager.onItsWay_inFlight inFlight, edit,
      List.append_nil]
    obtain ⟨-, -, -, notices, toStage⟩ := same
    rw [QueueManager.released, notices, toStage]
  · rw [State.withQm_qm, uqm]
    exact playing
  · rw [State.cueReady_iff, State.withQm_qm, State.withQm_sl, uqm, usl]
    exact ready starting k hk
  · rw [State.slotsLinked_iff, State.withQm_qm, State.withQm_sl, uqm, usl]
    exact fits

theorem QueueManager.inFlight_of_notice {q : QueueManager} {n : Notice} (h : q.noticeInFlight = some n) :
    ∃ f, q.inFlight = some f ∧ f.op = .notice n := by
  unfold QueueManager.noticeInFlight at h
  split at h
  · next f hf =>
    split at h
    · next m hm => exact ⟨f, hf, hm.trans (congrArg _ (Option.some.inj h))⟩
    · cases h
    · cases h
  · cases h

/-- The end of a notice: its token gives way to its answer's. -/
theorem State.finishNotice_links {s : State} {q : QueueManager} {slots : State → State} {c : Confirmation} {n : Notice}
    (links : s.Links) (same : q.sameWork s.qm) (notice : s.qm.noticeInFlight = some n)
    (keepsQm : ∀ t, (slots t).qm = t.qm) (keepsSc : ∀ t, (slots t).sc = t.sc)
    (keepsWork : ∀ t : State, t.playerLinked → (slots t).playerLinked)
    (fits : SlotsFit (ticketsIn .playing q.queue) (ticketsIn .cued q.queue)
      (slots (s.withQm { q with toStage := q.toStage ++ [c] })).sl)
    (stage : ∀ v : State, v.sc = s.sc → v.qm.queue = q.queue →
      v.qm.onItsWay = s.qm.toStage.map Confirmation.token ++ c.token :: s.qm.notices.map Notice.token → v.stageLinked) :
    (s.finishNotice q slots c).Links := by
  obtain ⟨f, hf, op⟩ := QueueManager.inFlight_of_notice notice
  have linked : (slots (s.withQm { q with toStage := q.toStage ++ [c] })).playerLinked :=
    keepsWork _ (State.playerLinked_of_perm (State.withQm_playerLinked links.work same) (.of_eq rfl) fun _ h => h)
  unfold State.finishNotice
  generalize hy : slots (s.withQm { q with toStage := q.toStage ++ [c] }) = y at linked fits
  have yqm : y.qm = { q with toStage := q.toStage ++ [c] } := by rw [← hy, keepsQm]; rfl
  have ysc : y.sc = s.sc := by rw [← hy, keepsSc]; rfl
  have noted := y.noteChange_untouched s.qm
  have inFlight : (y.noteChange s.qm).qm.inFlight = some f := by rw [noted.qm, yqm]; exact same.1.trans hf
  refine State.arbitrate_links ⟨stage _ (by simpa using ysc) ?_ ?_, ?_, ?_⟩
  · rw [State.withQm_qm, noted.qm, yqm]
    rfl
  · obtain ⟨-, -, -, notices, toStage⟩ := same
    rw [State.withQm_qm, noted.qm, yqm, QueueManager.onItsWay_idle rfl, ← toStage, ← notices]
    simp [QueueManager.released]
  · rw [State.slotsLinked_iff, State.withQm_qm, State.withQm_sl, noted.qm, noted.sl, yqm]
    exact fits
  · have work := State.playerWork_of_inFlight inFlight
    rw [op, Operation.playerWork, List.nil_append] at work
    refine State.playerLinked_of_perm linked (.of_eq (work.symm.trans noted.playerWork)) ?_
    exact State.keepsOutstanding_of_eq (y.noteChange_condition _)

end Sys2Proof.Machine
end

section
/-! PROOFS. What a command's owner keeps of `State.linked`. -/

namespace Sys2Proof.Machine

/-! ### Which port a command comes from (R163) -/

/-- A command that no panel sends comes from the Player. -/
theorem eq_player_of_allowed {c : Command} {src : Source} (h : c.allowed src = true) (own : c.onPanels = false) :
    src = .player := by
  simpa [Command.allowed, own] using h

theorem Edit.playerWork (src : Source) (e : Edit) :
    (Operation.edit ⟨src, e⟩).playerWork = if src = .player then [e.command] else [] := rfl

/-! ### Notices that arrive (R31) -/

/-- The Player's work, the slots and the queue as a notice of the SC finds them. -/
theorem State.notice_links {s t : State} {n : Notice} (waits : s.qm.waitsInOrder) (slots : s.slotsLinked)
    (qm : t.qm = s.qm) (sl : t.sl = s.sl)
    (stage : ∀ v : State, v.sc = t.sc → v.qm.onItsWay = s.qm.onItsWay ++ [n.token] → v.qm.queue = s.qm.queue →
      v.sl = s.sl → v.stageLinked) :
    (t.arrive (.notice n)).stageLinked ∧ (t.arrive (.notice n)).slotsLinked
      ∧ (t.arrive (.notice n)).playerWork.Perm t.playerWork := by
  refine ⟨stage _ (by simp) ?_ ?_ (by simpa using sl), State.arrive_slotsLinked ?_ _, State.arrive_work nofun⟩
  · rw [State.arrive_onItsWay (qm ▸ waits), qm]
    rfl
  · rw [State.arrive_queue, qm]
  · unfold State.slotsLinked at slots ⊢
    rwa [qm, sl]

/-- The song that stops or ends: the stage is ENDING and the RETIRE notice is on its way. -/
theorem State.finalise_links {s : State} (waits : s.qm.waitsInOrder) (song : s.sc.onSong = true) (stage : s.stageLinked)
    (slots : s.slotsLinked) (kind : EndKind) :
    (s.finalise kind).stageLinked ∧ (s.finalise kind).slotsLinked ∧ (s.finalise kind).playerWork.Perm s.playerWork := by
  have calm : s.qm.onItsWay = [] ∧ s.sc.pendingStart = none ∧ s.qm.playingCount = 1 := by
    unfold State.stageLinked at stage
    obtain playing | paused := s.sc.onSong_iff.1 song
    · simpa only [playing] using stage
    · simpa only [paused] using stage
  obtain ⟨way, pending, playing⟩ := calm
  have notice : ((s.withSu s.su.closeNotes).withSc { s.sc with stage := .ending }).playerWork = s.playerWork := by
    refine State.playerWork_congr rfl rfl rfl ⟨(nomatch ·), fun h => ?_⟩ ⟨(nomatch ·), fun h => ?_⟩ <;>
      rw [StageController.onSong, h] at song <;> cases song
  have links := State.notice_links (s := s) (t := (s.withSu s.su.closeNotes).withSc { s.sc with stage := .ending })
    (n := .retire kind s.sc.songTime s.su.closeNotes.finals) waits slots rfl rfl fun v sc on queue _ => by
      unfold State.stageLinked
      rw [sc, on, way, QueueManager.playingCount, queue, ← QueueManager.playingCount, playing]
      exact ⟨pending, .inl ⟨rfl, rfl⟩⟩
  rw [notice] at links
  exact links

theorem State.finalise_linksBut {src : Source} {s : State} (waits : s.qm.waitsInOrder) (song : s.sc.onSong = true)
    (h : s.LinksBut src) (kind : EndKind) : (s.finalise kind).LinksBut src := by
  obtain ⟨stage, slots, work⟩ := State.finalise_links waits song h.stage h.slots kind
  refine ⟨stage, slots, fun player => (h.none player ▸ work).eq_nil, fun panel => ?_⟩
  exact State.playerLinked_of_perm (h.work panel) work (State.keepsOutstanding_of_eq (by simp [State.finalise]))

/-! ### The slot a load is at (R52, R58, R59) -/

theorem mem_cued_of_cuedIs {q : QueueManager} {ticket : Nat} (h : q.cuedIs ticket = true) :
    ticket ∈ ticketsIn .cued q.queue := by
  obtain ⟨e, cued, rfl⟩ := QueueManager.cuedIs_eq_true_iff.1 h
  obtain ⟨mem, state⟩ := mem_of_cuedEntry cued
  exact mem_ticketsIn.2 ⟨e, mem, state, rfl⟩

theorem Slot.isPlaying_true {c : Slot} (h : c.isPlaying = true) : ∃ g, c = .playing g := by
  cases c with
  | playing g => exact ⟨g, rfl⟩
  | _ => cases h

theorem SlotsFit.eq_of_mem {p c : List Nat} {sl : SongLoader} (h : SlotsFit p c sl) {t u : Nat} (ht : t ∈ p) (hu : u ∈ p) :
    t = u := by
  match p, h.one, ht, hu with
  | [_], _, ht, hu => exact (List.mem_singleton.1 ht).trans (List.mem_singleton.1 hu).symm

/-- The slot a LOAD-OPEN chooses is not PLAYING, and no other slot carries the CUED ticket. -/
theorem SlotsFit.target {p c : List Nat} {sl : SongLoader} (h : SlotsFit p c sl) {ticket : Nat} (idle : ticket ∉ p) :
    (sl.get (sl.target ticket)).isPlaying = false
      ∧ ∀ m, m ≠ sl.target ticket → (sl.get m).ticket ≠ some ticket := by
  have spared {n : SlotName} (playing : (sl.get n).isPlaying = true) : (sl.get n).ticket ≠ some ticket := by
    obtain ⟨g, hg⟩ := Slot.isPlaying_true playing
    rw [hg]
    intro same
    exact idle (Option.some.inj same ▸ h.listed n g hg)
  have alone {n m : SlotName} (ne : m ≠ n) (playing : (sl.get n).isPlaying = true) : (sl.get m).isPlaying = false := by
    by_contra both
    obtain ⟨g, hg⟩ := Slot.isPlaying_true playing
    obtain ⟨k, hk⟩ := Slot.isPlaying_true (Bool.not_eq_false _ ▸ both)
    have same : k.ticket = g.ticket := h.eq_of_mem (h.listed m k hk) (h.listed n g hg)
    exact ne (h.apart m n g.ticket (by rw [hk]; exact congrArg some same) (by rw [hg]; rfl))
  rw [SongLoader.target_eq]
  split
  · next playing =>
    refine ⟨alone (n := .a) nofun playing, fun m ne => ?_⟩
    cases m with
    | a => exact spared (n := .a) playing
    | b => exact absurd rfl ne
  · next idleA =>
    rw [Bool.not_eq_true] at idleA
    split
    · next playing => exact ⟨idleA, fun m ne => by cases m <;> [exact absurd rfl ne; exact spared (n := .b) playing]⟩
    · next idleB =>
      rw [Bool.not_eq_true] at idleB
      split
      · next at' => exact ⟨idleA, fun m ne same => ne (h.apart m .a ticket same at')⟩
      · next other =>
        split
        · exact ⟨idleB, fun m ne => by cases m <;> [exact other; exact absurd rfl ne]⟩
        · next neither => exact ⟨idleA, fun m ne => by cases m <;> [exact absurd rfl ne; exact neither]⟩

/-- A load moves on or ends in its slot. -/
theorem SlotsFit.setLoad {p c : List Nat} {sl : SongLoader} (h : SlotsFit p c sl) {n : SlotName} {l l' : Load}
    (loading : sl.get n = .loading l) (same : l'.ticket = l.ticket) (e : LoadEnd) :
    SlotsFit p c (sl.set n (l'.slotAfter e)) := by
  have after : (l'.slotAfter e).ticket = some l.ticket ∧ (l'.slotAfter e).isPlaying = false := by
    cases e <;> exact ⟨congrArg some same, rfl⟩
  obtain ⟨ticket, idle'⟩ := after
  have before : (sl.get n).ticket = some l.ticket := by rw [loading]; rfl
  have idle : (sl.get n).isPlaying = false := by rw [loading]; rfl
  refine h.set idle idle' (fun t ht => ?_) fun m t ne ht hm => ?_
  · exact h.cued n t (before.trans (ticket.symm.trans ht)) idle
  · exact ne (h.apart m n t hm (before.trans (ticket.symm.trans ht)))

theorem SongLoader.carrying_ticket {sl : SongLoader} {ticket : Nat} {n : SlotName} (h : sl.carrying ticket = some n) :
    (sl.get n).ticket = some ticket := by
  unfold SongLoader.carrying at h
  split at h
  · obtain rfl := Option.some.inj h
    assumption
  · split at h
    · obtain rfl := Option.some.inj h
      assumption
    · cases h

theorem SongLoader.loadedSong_spec {sl : SongLoader} {ticket : Nat} {g : Song} (h : sl.loadedSong ticket = some g) :
    ∃ n, sl.get n = .loaded g ∧ g.ticket = ticket := by
  unfold SongLoader.loadedSong at h
  split at h
  · next k found =>
    obtain ⟨n, carrying, loaded⟩ := Option.map_eq_some_iff.1 found
    obtain rfl := Option.some.inj h
    have ticket := SongLoader.carrying_ticket carrying
    rw [loaded] at ticket
    exact ⟨n, loaded, Option.some.inj ticket⟩
  · cases h

/-! ### The stage by its state (R66) -/

theorem State.stageLinked_onSong {s : State} (song : s.sc.stage = .playing ∨ s.sc.stage = .paused) :
    s.stageLinked ↔ s.qm.onItsWay = [] ∧ s.sc.pendingStart = none ∧ s.qm.playingCount = 1 := by
  unfold State.stageLinked
  obtain song | song := song <;> rw [song]

theorem State.stageLinked_offSong {s : State} (off : s.sc.stage = .ready ∨ s.sc.stage = .result) :
    s.stageLinked ↔ s.qm.onItsWay = [] ∧ s.sc.pendingStart = none ∧ s.qm.playingCount = 0 := by
  unfold State.stageLinked
  obtain off | off := off <;> rw [off]

theorem StageController.stage_of_returnState {c : StageController} {back : ReturnState} (h : c.returnState = some back) :
    c.stage = .ready ∨ c.stage = .result := by
  unfold StageController.returnState at h
  cases stage : c.stage <;> simp_all

/-! ### The work of an owner -/

/-- The Player's port holds its command alone as an owner takes it. -/
structure State.Taken (src : Source) (c : Command) (s : State) : Prop where
  waits : s.qm.waitsInOrder
  distinct : (s.qm.queue.map (fun e => e.ticket)).Nodup
  allowed : c.allowed src = true
  outstanding : src = .player → s.ports.player.condition = .outstanding c.code
  links : s.LinksBut src

/-- A quiet change that its owner then answers. -/
theorem State.LinksBut.answer_of_untouched {src : Source} {s t : State} (h : s.LinksBut src) (same : s.Untouched t)
    (kept : t.ports.player.condition = s.ports.player.condition) (c : Command) (a : Answer) : (t.answer src c a).Links :=
  (same.linksBut (fun _ => State.keepsOutstanding_of_eq kept) h).answer c a

/-- The slots change by a command of the Player, and no work begins. -/
theorem State.LinksBut.withSlots {s t : State} (h : s.LinksBut .player) (sc : t.sc = s.sc) (qm : t.qm = s.qm)
    (loads : t.sl.inFlight = s.sl.inFlight) (saves : t.ps.saving = s.ps.saving)
    (fits : SlotsFit (ticketsIn .playing s.qm.queue) (ticketsIn .cued s.qm.queue) t.sl) : t.LinksBut .player := by
  obtain ⟨-, -, -, -, idle, -⟩ := State.owners_of_nil (h.none rfl)
  refine ⟨State.stageLinked_congr h.stage (congrArg _ sc) (congrArg _ sc) (congrArg _ qm) (congrArg _ qm)
      fun starting => absurd starting idle, ?_, fun _ => ?_, fun panel => absurd rfl panel⟩
  · rw [State.slotsLinked_iff, qm]
    exact fits
  · exact (State.playerWork_congr (congrArg _ qm) (by rw [loads]) (by rw [saves]) (by rw [sc]) (by rw [sc])).trans
      (h.none rfl)

/-- The stage changes by a command of the Player, and no work begins. -/
theorem State.LinksBut.withStage {s t : State} (h : s.LinksBut .player) (qm : t.qm = s.qm) (sl : t.sl = s.sl)
    (saves : t.ps.saving = s.ps.saving) (stage : t.stageLinked) (starts : t.sc.stage ≠ .starting)
    (resets : t.sc.stage ≠ .resetting) : t.LinksBut .player := by
  obtain ⟨-, -, -, -, starts', resets'⟩ := State.owners_of_nil (h.none rfl)
  refine ⟨stage, ?_, fun _ => ?_, fun panel => absurd rfl panel⟩
  · rw [State.slotsLinked_iff, qm, sl]
    exact (State.slotsLinked_iff s).1 h.slots
  · exact (State.playerWork_congr (congrArg _ qm) (by rw [sl]) (by rw [saves]) (iff_of_false starts starts')
      (iff_of_false resets resets')).trans (h.none rfl)

theorem State.setTime_untouched (s : State) (t : Nat) : s.Untouched (s.setTime t) := by
  unfold State.setTime
  split <;> exact ⟨rfl, rfl, rfl, rfl, rfl⟩

theorem State.arrive_edit_links {src : Source} {s : State} {e : Edit} (taken : s.Taken src e.command) :
    (s.arrive (.edit ⟨src, e⟩)).Links := by
  obtain ⟨waits, -, -, outstanding, fits⟩ := taken
  have work : (s.arrive (.edit ⟨src, e⟩)).playerWork.Perm ((if src = .player then [e.command] else []) ++ s.playerWork) :=
    State.arrive_work nofun
  refine ⟨State.arrive_stageLinked waits fits.stage rfl, State.arrive_slotsLinked fits.slots _, ?_⟩
  by_cases player : src = .player
  · rw [if_pos player, fits.none player] at work
    exact State.playerLinked_of_one work (by simpa using outstanding player)
  · rw [if_neg player] at work
    exact State.playerLinked_of_perm (fits.work player) work (State.keepsOutstanding_of_eq (by simp))

theorem State.arrive_takeNext_links {s : State} (taken : s.Taken .player .takeNext) : (s.arrive .takeNext).Links := by
  obtain ⟨waits, -, -, outstanding, fits⟩ := taken
  obtain ⟨-, free, -⟩ := State.owners_of_nil (fits.none rfl)
  have work : (s.arrive .takeNext).playerWork.Perm ([.takeNext] ++ s.playerWork) := State.arrive_work fun _ => free
  rw [fits.none rfl] at work
  exact ⟨State.arrive_stageLinked waits fits.stage rfl, State.arrive_slotsLinked fits.slots _,
    State.playerLinked_of_one work (by simpa using outstanding rfl)⟩

theorem State.beginStart_links {s : State} {ticket offset : Nat} {g : Song} {back : ReturnState}
    (ret : s.sc.returnState = some back) (loaded : s.sl.loadedSong ticket = some g) (taken : s.Taken .player .start) :
    (s.beginStart ticket offset g back).Links := by
  obtain ⟨waits, -, -, outstanding, fits⟩ := taken
  have off := StageController.stage_of_returnState ret
  obtain ⟨way, -, playing⟩ := (State.stageLinked_offSong off).1 fits.stage
  obtain ⟨n, slot, carries⟩ := SongLoader.loadedSong_spec loaded
  unfold State.beginStart
  generalize ht : s.withSc _ = t
  have work : t.playerWork.Perm (.start :: s.playerWork) := by
    rw [← ht]
    exact State.playerWork_starts rfl rfl rfl (by obtain h | h := off <;> simp [h]) (by obtain h | h := off <;> simp [h]) rfl
  have links := State.notice_links (s := s) (t := t) (n := .start ticket) waits fits.slots (by rw [← ht]; rfl)
    (by rw [← ht]; rfl) fun v sc on queue sl => by
      have starting : v.sc.stage = .starting := by rw [sc, ← ht]; rfl
      have pending : v.sc.pendingStart = some ⟨ticket, offset, back⟩ := by rw [sc, ← ht]; rfl
      unfold State.stageLinked
      rw [starting, on, way, QueueManager.playingCount, queue, ← QueueManager.playingCount, playing]
      exact ⟨_, pending, .inl ⟨rfl, rfl, fun _ => ⟨n, g, by rw [sl]; exact slot, carries⟩⟩⟩
  rw [fits.none rfl] at work
  refine ⟨links.1, links.2.1, State.playerLinked_of_one (links.2.2.trans work) ?_⟩
  rw [State.arrive_ports, ← ht]
  exact outstanding rfl

/-- With neither START nor STAGE-RESET waiting, the RESET notice follows what is on its way. -/
theorem State.stageLinked_reset {s v : State} (stage : s.stageLinked) (starts : s.sc.stage ≠ .starting)
    (resets : s.sc.stage ≠ .resetting) (resetting : v.sc.stage = .resetting)
    (pending : v.sc.pendingStart = s.sc.pendingStart) (way : v.qm.onItsWay = s.qm.onItsWay ++ [.resetNotice])
    (playing : v.qm.playingCount = s.qm.playingCount) : v.stageLinked := by
  unfold State.stageLinked at stage ⊢
  rw [resetting, pending, way, playing]
  dsimp only
  cases at' : s.sc.stage with
  | starting => exact absurd at' starts
  | resetting => exact absurd at' resets
  | ready | result | playing | paused =>
    simp only [at'] at stage
    obtain ⟨on, none, count⟩ := stage
    rw [on, count]
    exact ⟨none, .inl ⟨rfl, by omega⟩⟩
  | ending =>
    simp only [at'] at stage
    obtain ⟨none, ⟨on, count⟩ | ⟨on, count⟩⟩ := stage <;> rw [on, count]
    · exact ⟨none, .inr (.inl ⟨rfl, rfl⟩)⟩
    · exact ⟨none, .inr (.inr ⟨.inl rfl, rfl⟩)⟩

theorem State.beginReset_links {s : State} (starts : s.sc.stage ≠ .starting) (resets : s.sc.stage ≠ .resetting)
    (taken : s.Taken .player .stageReset) : s.beginReset.Links := by
  obtain ⟨waits, -, -, outstanding, fits⟩ := taken
  unfold State.beginReset
  generalize ht : State.withSc _ _ = t
  have work : t.playerWork.Perm (.stageReset :: s.playerWork) := by
    rw [← ht]
    exact State.playerWork_resets rfl rfl rfl starts resets rfl
  have links := State.notice_links (s := s) (t := t) (n := .reset s.sc.songTime) waits fits.slots (by rw [← ht]; rfl)
    (by rw [← ht]; rfl) fun v sc on queue sl =>
      State.stageLinked_reset fits.stage starts resets (by rw [sc, ← ht]; rfl) (by rw [sc, ← ht]; rfl) on
        (by rw [QueueManager.playingCount, queue, ← QueueManager.playingCount])
  rw [fits.none rfl] at work
  refine ⟨links.1, links.2.1, State.playerLinked_of_one (links.2.2.trans work) ?_⟩
  rw [State.arrive_ports, ← ht]
  exact outstanding rfl

theorem Work.links {src : Source} {c : Command} {s t : State} (h : Work src c s t) (taken : s.Taken src c) : t.Links := by
  have fits := taken.links
  cases h with
  | answered => exact fits.answer _ _
  | edit s e => exact State.arrive_edit_links taken
  | takeNext s =>
    obtain rfl := eq_player_of_allowed taken.allowed rfl
    exact State.arrive_takeNext_links taken
  | loadOpen s ticket count order a places cued =>
    obtain rfl := eq_player_of_allowed taken.allowed rfl
    have hc := mem_cued_of_cuedIs cued
    have hs := (State.slotsLinked_iff s).1 fits.slots
    obtain ⟨idle, alone⟩ := hs.target (ticket := ticket) fun hp => nomatch state_of_ticketsIn taken.distinct hp hc
    have set := hs.set (new := .loading (Load.opened ticket count order)) idle rfl
      (fun t ht => Option.some.inj ht ▸ hc) fun m t ne ht => Option.some.inj ht ▸ alone m ne
    exact (fits.withSlots (by rfl) (by rfl) (by simp) (by rfl) set).answer _ _
  | loadData s n l bytes loading =>
    obtain rfl := eq_player_of_allowed taken.allowed rfl
    obtain ⟨-, -, free, -⟩ := State.owners_of_nil (fits.none rfl)
    have work := State.playerWork_loads (s := s) (t := s.withSl { s.sl with inFlight := some ⟨n, bytes⟩ }) rfl rfl rfl free rfl
    rw [fits.none rfl] at work
    exact ⟨State.stageLinked_congr fits.stage rfl rfl rfl rfl fun _ _ hk => hk, fits.slots,
      State.playerLinked_of_one work (taken.outstanding rfl)⟩
  | loadClose s n l a loading =>
    obtain rfl := eq_player_of_allowed taken.allowed rfl
    have hs := (State.slotsLinked_iff s).1 fits.slots
    have set := hs.setLoad (SongLoader.get_of_loadingSlot loading) rfl l.closing
    exact (fits.withSlots (by simp [State.loadDone]) (by simp [State.loadDone]) (by simp [State.loadDone])
      (by simp [State.loadDone]) (by simpa [State.loadDone] using set)).answer _ _
  | loadAbort s n a target =>
    obtain rfl := eq_player_of_allowed taken.allowed rfl
    have hs := (State.slotsLinked_iff s).1 fits.slots
    obtain ⟨-, idle⟩ := State.abortTarget_eq_some_iff.1 target
    have set := hs.set (new := .empty) idle rfl (fun t ht => nomatch ht) fun m t ne ht => nomatch ht
    exact (fits.withSlots (by rfl) (by rfl) (by simp) (by rfl) set).answer _ _
  | start s ticket offset g back ret cued loaded =>
    obtain rfl := eq_player_of_allowed taken.allowed rfl
    exact State.beginStart_links ret loaded taken
  | pause s a playing =>
    obtain rfl := eq_player_of_allowed taken.allowed rfl
    refine (fits.withStage (t := (s.withSc { s.sc with stage := .paused }).raiseAll .stageChanged) rfl rfl rfl ?_
      nofun nofun).answer _ _
    exact (State.stageLinked_onSong (.inr rfl)).2 ((State.stageLinked_onSong (.inl playing)).1 fits.stage)
  | resume s a paused =>
    obtain rfl := eq_player_of_allowed taken.allowed rfl
    refine (fits.withStage (t := (s.withSc { s.sc with stage := .playing }).raiseAll .stageChanged) rfl rfl rfl ?_
      nofun nofun).answer _ _
    exact (State.stageLinked_onSong (.inl rfl)).2 ((State.stageLinked_onSong (.inr paused)).1 fits.stage)
  | stop s song =>
    obtain rfl := eq_player_of_allowed taken.allowed rfl
    obtain ⟨stage, slots, none, -⟩ := State.finalise_linksBut taken.waits song fits .stopped
    exact ⟨stage, slots, State.playerLinked_of_nil (none rfl)⟩
  | sync s time ended a song =>
    obtain rfl := eq_player_of_allowed taken.allowed rfl
    have same := s.setTime_untouched time
    have timed := same.linksBut (src := .player) (fun panel => absurd rfl panel) fits
    unfold State.endIf
    split
    · refine (State.finalise_linksBut (same.qm ▸ taken.waits) ?_ timed .completed).answer _ _
      rwa [StageController.onSong, same.stage]
    · exact timed.answer _ _
  | skipResult s a result =>
    obtain rfl := eq_player_of_allowed taken.allowed rfl
    refine (fits.withStage (t := s.endResult) rfl rfl rfl ?_ nofun nofun).answer _ _
    exact (State.stageLinked_offSong (.inl rfl)).2 ((State.stageLinked_offSong (.inr result)).1 fits.stage)
  | stageReset s starting resetting =>
    obtain rfl := eq_player_of_allowed taken.allowed rfl
    exact State.beginReset_links starting resetting taken
  | profileSave s =>
    obtain rfl := eq_player_of_allowed taken.allowed rfl
    obtain ⟨-, -, -, free, -⟩ := State.owners_of_nil (fits.none rfl)
    have work := State.playerWork_saves (s := s)
      (t := s.withPs { s.ps with saving := some s.ps.profile, nonvolatile := none }) rfl rfl rfl free rfl
    rw [fits.none rfl] at work
    exact ⟨State.stageLinked_congr fits.stage rfl rfl rfl rfl fun _ _ hk => hk, fits.slots,
      State.playerLinked_of_one work (taken.outstanding rfl)⟩
  | rights s panel m a =>
    exact fits.answer_of_untouched ⟨by simp, by simp, by simp, by simp, by simp⟩ (by cases panel <;> rfl) _ _
  | events s a =>
    exact fits.answer_of_untouched ⟨by simp, by simp, by simp, by simp, by simp⟩ (by cases src <;> rfl) _ _
  | mask s m a =>
    exact fits.answer_of_untouched ⟨by simp, by simp, by simp, by simp, by simp⟩ (by cases src <;> rfl) _ _
  | key c s k moved a right song =>
    refine fits.answer_of_untouched ?_ ?_ _ _
    · exact ⟨by simp [State.stageChangedIf], by simp [State.stageChangedIf], by simp [State.stageChangedIf],
        by simp [State.stageChangedIf], by simp [State.stageChangedIf]⟩
    · cases moved <;> rfl
  | tempo s p moved a song =>
    refine fits.answer_of_untouched ?_ ?_ _ _
    · exact ⟨by simp [State.stageChangedIf], by simp [State.stageChangedIf], by simp [State.stageChangedIf],
        by simp [State.stageChangedIf], by simp [State.stageChangedIf]⟩
    · cases moved <;> rfl
  | glyphLoad | idleText | zones | profileSet =>
    refine fits.answer_of_untouched ?_ ?_ _ _
    · exact ⟨rfl, rfl, rfl, rfl, rfl⟩
    · rfl

end Sys2Proof.Machine
end

section
/-! PROOFS. Every move keeps the queue, the slots, the stage and the Player's work in hand together: the settlement of O8. -/

namespace Sys2Proof.Machine

/-! ### The stage by what is on its way (R66) -/

theorem append_cons_eq_singleton {α : Type} {A B : List α} {x y : α} :
    A ++ x :: B = [y] ↔ A = [] ∧ x = y ∧ B = [] := by
  cases A <;> simp

theorem append_cons_eq_pair {α : Type} {A B : List α} {x y z : α} :
    A ++ x :: B = [y, z] ↔ (A = [] ∧ x = y ∧ B = [z]) ∨ (A = [y] ∧ x = z ∧ B = []) := by
  cases A with
  | nil => simp
  | cons a A => cases A <;> simp

section
variable {s : State} (hs : s.stageLinked)
include hs

/-- A START notice on its way is alone, and the stage is STARTING. -/
theorem State.stage_of_startNotice {A B : List Token} {t : Nat} (way : s.qm.onItsWay = A ++ .startNotice t :: B) :
    s.sc.stage = .starting ∧ A = [] ∧ B = [] ∧ s.qm.playingCount = 0 ∧ s.cueReady t ∧ ∃ p, s.sc.pendingStart = some p := by
  unfold State.stageLinked at hs
  rw [way] at hs
  cases at' : s.sc.stage <;> simp only [at'] at hs <;>
    simp [append_cons_eq_singleton, append_cons_eq_pair] at hs
  obtain ⟨p, pending, ⟨rfl, rfl, rfl⟩, count, ready⟩ := hs
  exact ⟨rfl, rfl, rfl, count, ready, p, pending⟩

/-- A RETIRE notice is first on its way, and a RESET notice alone can follow it. -/
theorem State.stage_of_retireNotice {A B : List Token} (way : s.qm.onItsWay = A ++ .retireNotice :: B) :
    s.sc.pendingStart = none ∧ A = []
      ∧ ((s.sc.stage = .ending ∧ B = []) ∨ (s.sc.stage = .resetting ∧ B = [.resetNotice])) := by
  unfold State.stageLinked at hs
  rw [way] at hs
  cases at' : s.sc.stage <;> simp only [at'] at hs <;>
    simp [append_cons_eq_singleton, append_cons_eq_pair] at hs
  · obtain ⟨pending, ⟨rfl, rfl⟩, -⟩ := hs
    exact ⟨pending, rfl, .inl ⟨rfl, rfl⟩⟩
  · obtain ⟨pending, ⟨rfl, rfl⟩, -⟩ := hs
    exact ⟨pending, rfl, .inr ⟨rfl, rfl⟩⟩

/-- A RESET notice is last on its way, and follows a RETIRE notice or its answer or nothing. -/
theorem State.stage_of_resetNotice {A B : List Token} (way : s.qm.onItsWay = A ++ .resetNotice :: B) :
    s.sc.pendingStart = none ∧ s.sc.stage = .resetting ∧ B = [] ∧ (A = [] ∨ A = [.retireNotice] ∨ A = [.retired]) := by
  unfold State.stageLinked at hs
  rw [way] at hs
  cases at' : s.sc.stage <;> simp only [at'] at hs <;>
    simp [append_cons_eq_singleton, append_cons_eq_pair] at hs
  obtain ⟨pending, ⟨⟨rfl, rfl⟩, -⟩ | ⟨⟨rfl, rfl⟩, -⟩ | ⟨⟨rfl, rfl⟩, -⟩⟩ := hs
  · exact ⟨pending, rfl, rfl, .inl rfl⟩
  · exact ⟨pending, rfl, rfl, .inr (.inl rfl)⟩
  · exact ⟨pending, rfl, rfl, .inr (.inr rfl)⟩

theorem State.stage_of_started {W : List Token} (way : s.qm.onItsWay = .started :: W) :
    s.sc.stage = .starting ∧ W = [] ∧ s.qm.playingCount = 1 := by
  unfold State.stageLinked at hs
  rw [way] at hs
  cases at' : s.sc.stage <;> simp [at'] at hs
  obtain ⟨-, rfl, count⟩ := hs
  exact ⟨rfl, rfl, count⟩

theorem State.stage_of_lost {W : List Token} (way : s.qm.onItsWay = .lost :: W) :
    s.sc.stage = .starting ∧ W = [] ∧ s.qm.playingCount = 0 := by
  unfold State.stageLinked at hs
  rw [way] at hs
  cases at' : s.sc.stage <;> simp [at'] at hs
  obtain ⟨-, rfl, count⟩ := hs
  exact ⟨rfl, rfl, count⟩

theorem State.stage_of_retired {W : List Token} (way : s.qm.onItsWay = .retired :: W) :
    s.sc.pendingStart = none ∧ s.qm.playingCount = 0
      ∧ ((s.sc.stage = .ending ∧ W = []) ∨ (s.sc.stage = .resetting ∧ (W = [.resetNotice] ∨ W = [.wasReset]))) := by
  unfold State.stageLinked at hs
  rw [way] at hs
  cases at' : s.sc.stage <;> simp [at'] at hs
  · obtain ⟨pending, rfl, count⟩ := hs
    exact ⟨pending, count, .inl ⟨rfl, rfl⟩⟩
  · obtain ⟨pending, follows, count⟩ := hs
    exact ⟨pending, count, .inr ⟨rfl, follows⟩⟩

theorem State.stage_of_wasReset {W : List Token} (way : s.qm.onItsWay = .wasReset :: W) :
    s.sc.pendingStart = none ∧ s.qm.playingCount = 0 ∧ s.sc.stage = .resetting ∧ W = [] := by
  unfold State.stageLinked at hs
  rw [way] at hs
  cases at' : s.sc.stage <;> simp [at'] at hs
  obtain ⟨pending, rfl, count⟩ := hs
  exact ⟨pending, count, rfl, rfl⟩

end

/-- The tokens of what is on its way with a notice in flight. -/
theorem QueueManager.onItsWay_notice {q : QueueManager} {n : Notice} (h : q.noticeInFlight = some n) :
    q.onItsWay = q.toStage.map Confirmation.token ++ n.token :: q.notices.map Notice.token := by
  obtain ⟨f, hf, op⟩ := QueueManager.inFlight_of_notice h
  rw [QueueManager.onItsWay_inFlight hf, op]
  simp [Operation.tokens]

/-- The first answer on its way leads what is on its way. -/
theorem QueueManager.onItsWay_toStage {q : QueueManager} {c : Confirmation} {rest : List Confirmation}
    (h : q.toStage = c :: rest) : q.onItsWay = c.token :: QueueManager.onItsWay { q with toStage := rest } := by
  rw [QueueManager.onItsWay, h]
  rfl

/-! ### Edits and TAKE-NEXT at their end (R28) -/

theorem SlotDrop.drops_iff {d : SlotDrop} {c : Slot} : d.drops c = true ↔ ∃ t ∈ d.tickets, c.ticket = some t := by
  simp [SlotDrop.drops, carriesTicket]

section
variable {q l : List Entry} {d : SlotDrop} (distinct : (q.map (fun e => e.ticket)).Nodup) (cues : CuesAfter q l d)
include distinct cues

/-- A ticket that stays CUED is not one whose slots are dropped. -/
theorem CuesAfter.kept {t : Nat} (ht : t ∈ ticketsIn .cued l) : t ∈ ticketsIn .cued q ∧ t ∉ d.tickets := by
  have apart := cues.2.nodup_iff.1 (ticketsIn_nodup distinct .cued)
  exact ⟨cues.2.mem_iff.2 (List.mem_append_right _ ht), fun drop => (List.disjoint_of_nodup_append apart) drop ht⟩

theorem CuesAfter.fits {sl sl' : SongLoader} (fits : SlotsFit (ticketsIn .playing q) (ticketsIn .cued q) sl)
    (drops : ∀ n, sl'.get n = if d.drops (sl.get n) then .empty else sl.get n) :
    SlotsFit (ticketsIn .playing l) (ticketsIn .cued l) sl' := by
  refine (fits.dropped drops (fun g hg => ?_) fun n t ht named stays => ?_).mono cues.1 (fun _ h => h) fun _ => rfl
  · rw [← Bool.not_eq_true]
    intro dropped
    obtain ⟨t, ht, same⟩ := SlotDrop.drops_iff.1 dropped
    have cued := cues.2.mem_iff.2 (List.mem_append_left _ ht)
    have playing : t ∈ ticketsIn .playing q := Option.some.inj same ▸ hg
    exact nomatch state_of_ticketsIn distinct playing cued
  · refine (List.mem_append.1 (cues.2.mem_iff.1 ht)).resolve_left fun drop => ?_
    rw [SlotDrop.drops_iff.2 ⟨t, drop, named⟩] at stays
    cases stays

theorem CuesAfter.ready {s : State} (queue : s.qm.queue = q) {sl : SongLoader}
    (drops : ∀ n, sl.get n = if d.drops (s.sl.get n) then .empty else s.sl.get n) {k : Nat} (hk : s.cueReady k)
    (cued : k ∈ ticketsIn .cued l) : ∃ n g, sl.get n = .loaded g ∧ g.ticket = k := by
  obtain ⟨before, stays⟩ := cues.kept distinct cued
  obtain ⟨n, g, loaded, carries⟩ := (s.cueReady_iff k).1 hk (queue ▸ before)
  refine ⟨n, g, ?_, carries⟩
  rw [drops, loaded, if_neg]
  rintro dropped
  obtain ⟨t, ht, same⟩ := SlotDrop.drops_iff.1 dropped
  exact stays (carries ▸ Option.some.inj same ▸ ht)

end

theorem State.editEnd_links {s : State} {item : BacklogItem} {rights : BitVec 4} {threshold : Nat} {o : Outcome}
    (links : s.Links) (distinct : (s.qm.queue.map (fun e => e.ticket)).Nodup)
    (inFlight : s.qm.inFlight = some ⟨.edit item, rights, threshold⟩)
    (ho : o = s.qm.applyEdit ⟨.edit item, rights, threshold⟩ item.source item.edit) :
    (s.finish item.source item.edit.command o).Links := by
  have cues : CuesAfter s.qm.queue o.qm.queue o.drop := ho ▸ s.qm.applyEdit_cues distinct _ _ _
  have same : o.qm.sameWork s.qm := ho ▸ (Applied.edit _ _ _).steps.sameWork
  have drops := (s.withQm o.qm).applyDrop_slot o.drop
  refine State.finish_links links same inFlight (fun player => ⟨_, if_pos player⟩) (fun panel => if_neg panel) rfl ?_
    (cues.fits distinct ((State.slotsLinked_iff s).1 links.slots) drops) fun _ k hk => cues.ready distinct rfl drops hk
  rw [QueueManager.playingCount_eq, QueueManager.playingCount_eq, cues.1.length_eq]

theorem State.takeNextEnd_links {s : State} {rights : BitVec 4} {threshold : Nat} (links : s.Links)
    (distinct : (s.qm.queue.map (fun e => e.ticket)).Nodup)
    (inFlight : s.qm.inFlight = some ⟨.takeNext, rights, threshold⟩) :
    (s.finish .player .takeNext s.qm.applyTakeNext).Links := by
  obtain ⟨drop, playing, cued⟩ := s.qm.applyTakeNext_cues distinct
  have none := links.work.nil_of_cons (c := .takeNext) (.of_eq (State.playerWork_of_inFlight inFlight))
  obtain ⟨-, -, -, -, starts, -⟩ := State.owners_of_nil none
  refine State.finish_links links Applied.takeNext.steps.sameWork inFlight (fun _ => ⟨_, rfl⟩) (fun panel => absurd rfl panel)
    rfl ?_ ?_ fun starting => absurd starting starts
  · rw [QueueManager.playingCount_eq, QueueManager.playingCount_eq, playing.length_eq]
  · rw [drop]
    refine ((State.slotsLinked_iff s).1 links.slots).mono playing (fun t ht => ?_) fun _ => rfl
    obtain same | free := cued
    · rwa [same]
    · rw [free] at ht
      cases ht

/-! ### The stage notices at their end (R37 to R39) -/

/-- The LOADED slot of the CUED ticket becomes PLAYING. -/
theorem SlotsFit.begun {sl sl' : SongLoader} {t : Nat} (h : SlotsFit [] [t] sl)
    (ready : ∃ n g, sl.get n = .loaded g ∧ g.ticket = t) (begins : ∀ n, sl'.get n = (sl.get n).begin t) :
    SlotsFit [t] [] sl' := by
  obtain ⟨n, g, loaded, carries⟩ := ready
  have begun : sl'.get n = .playing g := by
    rw [begins, loaded, Slot.begin, if_pos carries]
  have tickets (m : SlotName) : (sl'.get m).ticket = (sl.get m).ticket := by
    rw [begins]
    cases sl.get m with
    | loaded k =>
      rw [Slot.begin]
      split <;> rfl
    | _ => rfl
  have alone (m : SlotName) (u : Nat) (hu : (sl'.get m).ticket = some u) : m = n := by
    rw [tickets] at hu
    have idle : (sl.get m).isPlaying = false := by
      by_contra playing
      obtain ⟨k, hk⟩ := Slot.isPlaying_true (by simpa using playing)
      exact absurd (h.listed m k hk) List.not_mem_nil
    obtain rfl := List.mem_singleton.1 (h.cued m u hu idle)
    exact h.apart m n u hu (by rw [loaded]; exact congrArg some carries)
  refine ⟨le_rfl, fun m k hk => ?_, fun u hu => ?_, fun m u hu idle => ?_, fun m k u hm hk => ?_⟩
  · obtain rfl := alone m k.ticket (by rw [hk]; rfl)
    obtain rfl := Slot.playing.inj (hk.symm.trans begun)
    exact List.mem_singleton.2 carries
  · exact ⟨n, g, begun, carries.trans (List.mem_singleton.1 hu).symm⟩
  · obtain rfl := alone m u hu
    rw [begun] at idle
    cases idle
  · exact (alone m u hm).trans (alone k u hk).symm

theorem State.startEnd_links {s : State} {e : Entry} (links : s.Links) (kept : s.qm.wellKept) (order : s.qm.inOrder)
    (notice : s.qm.noticeInFlight = some (.start e.ticket)) (cued : cuedEntry s.qm.queue = some e) :
    (s.finishNotice { s.qm with queue := updateTicket s.qm.queue e.ticket (fun _ => { e with state := .playing }) }
      (State.playSlot e.ticket) (.start e.startKey e.tempo e.duet)).Links := by
  have way := QueueManager.onItsWay_notice notice
  obtain ⟨starting, before, after, count, ready, p, pending⟩ := State.stage_of_startNotice links.stage way
  obtain ⟨playing, cues⟩ := ticketsIn_begun kept.distinct cued rfl
  rw [QueueManager.playingCount_eq] at count
  have none : ticketsIn .playing s.qm.queue = [] := List.eq_nil_of_length_eq_zero count
  have one : (ticketsIn .cued s.qm.queue).length ≤ 1 := by rw [length_ticketsIn]; exact order.2.1
  rw [cues.length_eq, List.length_cons] at one
  have rest := List.eq_nil_of_length_eq_zero (Nat.le_zero.1 (Nat.le_of_succ_le_succ one))
  rw [rest] at cues
  rw [none] at playing
  have fits : SlotsFit [] [e.ticket] s.sl :=
    ((State.slotsLinked_iff s).1 links.slots).mono (.of_eq none.symm) (fun _ h => cues.mem_iff.1 h) fun _ => rfl
  have cuedTicket : e.ticket ∈ ticketsIn .cued s.qm.queue := cues.mem_iff.2 List.mem_cons_self
  have begun := fits.begun ((s.cueReady_iff _).1 ready cuedTicket)
    (sl' := { s.sl with slotA := s.sl.slotA.begin e.ticket, slotB := s.sl.slotB.begin e.ticket }) fun n => by cases n <;> rfl
  refine State.finishNotice_links links (Applied.start e cued).steps.sameWork notice (fun _ => rfl) (fun _ => rfl)
    (fun t h => State.playerLinked_of_perm h (.of_eq rfl) fun _ outstanding => outstanding)
    (begun.mono playing nofun fun _ => rfl) fun v sc queue on => ?_
  unfold State.stageLinked
  rw [sc, starting, on, before, after, QueueManager.playingCount_eq, queue, playing.length_eq]
  exact ⟨p, pending, .inr (.inl ⟨rfl, rfl⟩)⟩

theorem State.startLost_links {s : State} {ticket : Nat} (links : s.Links)
    (notice : s.qm.noticeInFlight = some (.start ticket)) : (s.finishNotice s.qm id .cueLost).Links := by
  have way := QueueManager.onItsWay_notice notice
  obtain ⟨starting, before, after, count, -, p, pending⟩ := State.stage_of_startNotice links.stage way
  refine State.finishNotice_links links (QueueSteps.sameWork .refl) notice (fun _ => rfl) (fun _ => rfl) (fun _ h => h)
    (((State.slotsLinked_iff s).1 links.slots).mono (.refl _) (fun _ h => h) fun _ => rfl) fun v sc queue on => ?_
  unfold State.stageLinked
  rw [sc, starting, on, before, after, QueueManager.playingCount, queue, ← QueueManager.playingCount, count]
  exact ⟨p, pending, .inr (.inr ⟨rfl, rfl⟩)⟩

theorem State.retireEnd_links {s : State} {kind : EndKind} {time : Nat} {lanes : PerLane Finals} (links : s.Links)
    (kept : s.qm.wellKept) (notice : s.qm.noticeInFlight = some (.retire kind time lanes)) :
    (s.finishNotice (s.qm.retire kind time lanes) (fun t => t.dropSlots Slot.isPlaying) .retire).Links := by
  have way := QueueManager.onItsWay_notice notice
  obtain ⟨pending, before, stage⟩ := State.stage_of_retireNotice links.stage way
  have fits := (State.slotsLinked_iff s).1 links.slots
  obtain ⟨none, cued⟩ := s.qm.retire_tickets kept.distinct fits.one kind time lanes
  have retired := fits.retired (c' := ticketsIn .cued (s.qm.retire kind time lanes).queue)
    ((s.withQm { s.qm.retire kind time lanes with
        toStage := (s.qm.retire kind time lanes).toStage ++ [.retire] }).dropSlots_slot Slot.isPlaying)
    fun t ht => cued.mem_iff.2 ht
  refine State.finishNotice_links links (Applied.retire kind time lanes).steps.sameWork notice (fun _ => by simp)
    (fun _ => by simp) (fun t h => State.dropSlots_playerLinked h _) (none ▸ retired) fun v sc queue on => ?_
  unfold State.stageLinked
  rw [sc, on, before, pending, QueueManager.playingCount_eq, queue, none]
  obtain ⟨ending, after⟩ | ⟨resetting, after⟩ := stage
  · rw [ending, after]
    exact ⟨rfl, .inr ⟨rfl, rfl⟩⟩
  · rw [resetting, after]
    exact ⟨rfl, .inr (.inr ⟨.inl rfl, rfl⟩)⟩

/-- No RETIRE notice is in flight with a RESET notice: what is ahead of it is an answer. -/
theorem retireNotice_notMem (l : List Confirmation) : l.map Confirmation.token ≠ [.retireNotice] := by
  intro h
  obtain ⟨c, -, hc⟩ := List.mem_map.1 (h ▸ List.mem_singleton.2 rfl)
  cases c <;> cases hc

theorem State.resetEnd_links {s : State} {time : Nat} (links : s.Links) (kept : s.qm.wellKept)
    (notice : s.qm.noticeInFlight = some (.reset time)) :
    (s.finishNotice (s.qm.abandon time) (fun t => t.dropSlots (fun _ => true)) .reset).Links := by
  have way := QueueManager.onItsWay_notice notice
  obtain ⟨pending, resetting, after, before⟩ := State.stage_of_resetNotice links.stage way
  have fits := (State.slotsLinked_iff s).1 links.slots
  have none := s.qm.abandon_tickets kept fits.one time
  have empty : SlotsFit [] (ticketsIn .cued (s.qm.abandon time).queue)
      ((s.withQm { s.qm.abandon time with toStage := (s.qm.abandon time).toStage ++ [.reset] }).dropSlots
        (fun _ => true)).sl :=
    .of_empty fun n => by rw [State.dropSlots_slot]; rfl
  refine State.finishNotice_links links (Applied.abandon time).steps.sameWork notice (fun _ => by simp)
    (fun _ => by simp) (fun t h => State.dropSlots_playerLinked h _) (none ▸ empty) fun v sc queue on => ?_
  unfold State.stageLinked
  rw [sc, resetting, on, after, pending, QueueManager.playingCount_eq, queue, none]
  obtain ahead | ahead | ahead := before
  · rw [ahead]
    exact ⟨rfl, .inr (.inr ⟨.inr (.inr rfl), rfl⟩)⟩
  · exact absurd ahead (retireNotice_notMem _)
  · rw [ahead]
    exact ⟨rfl, .inr (.inr ⟨.inr (.inl rfl), rfl⟩)⟩

end Sys2Proof.Machine
end

section
/-! PROOFS. The answers that reach the SC, the ports, and every other move under `State.linked`: the settlement of O8. -/

namespace Sys2Proof.Machine

/-! ### The answers to the stage notices (R68, R69, R79, R82) -/

/-- The stage of a state whose first answer is taken, by the tokens left. -/
theorem State.LinksBut.confirmed {s t : State} (links : s.Links) (queue : t.qm.queue = s.qm.queue) (sl : t.sl = s.sl)
    (stage : t.stageLinked) (none : t.playerWork = []) : t.LinksBut .player := by
  refine ⟨stage, ?_, fun _ => none, fun panel => absurd rfl panel⟩
  rw [State.slotsLinked_iff, queue, sl]
  exact (State.slotsLinked_iff s).1 links.slots

theorem State.startConfirmed_links {s : State} {key : Int} {tempo : Nat} {duet : Bool} {rest : List Confirmation}
    {p : PendingStart} (links : s.Links) (confirmed : s.qm.toStage = .start key tempo duet :: rest) (a : Answer) :
    ((((s.withQm { s.qm with toStage := rest }).songStart p key tempo duet).raiseAll .songStarted).answer .player
      .start a).Links := by
  obtain ⟨starting, way, count⟩ := State.stage_of_started links.stage (QueueManager.onItsWay_toStage confirmed)
  generalize ht : ((s.withQm { s.qm with toStage := rest }).songStart p key tempo duet).raiseAll .songStarted = t
  have qm : t.qm = { s.qm with toStage := rest } := by rw [← ht]; rfl
  have sl : t.sl = s.sl := by rw [← ht]; rfl
  have ps : t.ps = s.ps := by rw [← ht]; rfl
  have playing : t.sc.stage = .playing ∧ t.sc.pendingStart = none := by rw [← ht]; exact ⟨rfl, rfl⟩
  obtain ⟨stage, pending⟩ := playing
  have work : s.playerWork.Perm (.start :: t.playerWork) :=
    State.playerWork_starts (by rw [qm]; rfl) (by rw [sl]) (by rw [ps]) (by rw [stage]; exact nofun)
      (by rw [stage]; exact nofun) starting
  refine (State.LinksBut.confirmed links (by rw [qm]) sl ?_ (links.work.nil_of_cons work)).answer _ _
  rw [State.stageLinked_onSong (.inl stage), qm]
  exact ⟨way, pending, count⟩

theorem ReturnState.stage_cases (b : ReturnState) : b.stage = .ready ∨ b.stage = .result := by
  cases b with
  | ready => exact .inl rfl
  | result => exact .inr rfl

theorem State.cueLost_links {s : State} {rest : List Confirmation} {p : PendingStart} (links : s.Links)
    (lost : s.qm.toStage = .cueLost :: rest) (a : Answer) :
    (((s.withQm { s.qm with toStage := rest }).withSc
      { s.sc with
        stage := p.back.stage
        endTime := none
        hold := s.sc.hold.resume
        pendingStart := none }).answer .player .start a).Links := by
  obtain ⟨starting, way, count⟩ := State.stage_of_lost links.stage (QueueManager.onItsWay_toStage lost)
  have back := p.back.stage_cases
  generalize ht : (s.withQm { s.qm with toStage := rest }).withSc _ = t
  have qm : t.qm = { s.qm with toStage := rest } := by rw [← ht]; rfl
  have sl : t.sl = s.sl := by rw [← ht]; rfl
  have ps : t.ps = s.ps := by rw [← ht]; rfl
  have off : (t.sc.stage = .ready ∨ t.sc.stage = .result) ∧ t.sc.pendingStart = none := by rw [← ht]; exact ⟨back, rfl⟩
  obtain ⟨stage, pending⟩ := off
  have work : s.playerWork.Perm (.start :: t.playerWork) :=
    State.playerWork_starts (by rw [qm]; rfl) (by rw [sl]) (by rw [ps]) (by obtain h | h := stage <;> simp [h])
      (by obtain h | h := stage <;> simp [h]) starting
  refine (State.LinksBut.confirmed links (by rw [qm]) sl ?_ (links.work.nil_of_cons work)).answer _ _
  rw [State.stageLinked_offSong stage, qm]
  exact ⟨way, pending, count⟩

theorem State.resetConfirmed_links {s : State} {rest : List Confirmation} (links : s.Links)
    (confirmed : s.qm.toStage = .reset :: rest) (a : Answer) :
    ((((s.withQm { s.qm with toStage := rest }).withSc { s.sc with stage := .ready, endTime := none }).raiseAll
      .stageChanged).answer .player .stageReset a).Links := by
  obtain ⟨pending, count, resetting, way⟩ :=
    State.stage_of_wasReset links.stage (QueueManager.onItsWay_toStage confirmed)
  generalize ht : State.raiseAll _ _ = t
  have qm : t.qm = { s.qm with toStage := rest } := by rw [← ht]; rfl
  have sl : t.sl = s.sl := by rw [← ht]; rfl
  have ps : t.ps = s.ps := by rw [← ht]; rfl
  have ready : t.sc.stage = .ready ∧ t.sc.pendingStart = s.sc.pendingStart := by rw [← ht]; exact ⟨rfl, rfl⟩
  obtain ⟨stage, same⟩ := ready
  have work : s.playerWork.Perm (.stageReset :: t.playerWork) :=
    State.playerWork_resets (by rw [qm]; rfl) (by rw [sl]) (by rw [ps]) (by rw [stage]; exact nofun)
      (by rw [stage]; exact nofun) resetting
  refine (State.LinksBut.confirmed links (by rw [qm]) sl ?_ (links.work.nil_of_cons work)).answer _ _
  rw [State.stageLinked_offSong (.inl stage), qm, same]
  exact ⟨way, pending, count⟩

/-- What the RETIRE confirmation leaves of the stage: READY or RESULT after ENDING, and RESETTING as it is. -/
theorem State.showResult_stage (s : State) :
    s.showResult.sc.pendingStart = s.sc.pendingStart ∧ s.showResult.sl = s.sl ∧ s.showResult.ps = s.ps
      ∧ s.showResult.ports.player.condition = s.ports.player.condition
      ∧ ((s.sc.stage = .resetting ∧ s.showResult.sc.stage = .resetting)
        ∨ (s.sc.stage ≠ .resetting ∧ (s.showResult.sc.stage = .ready ∨ s.showResult.sc.stage = .result))) := by
  obtain ⟨resetting, h⟩ | ⟨other, -, h⟩ | ⟨other, -, h⟩ := s.showResult_cases <;> rw [h]
  · exact ⟨rfl, rfl, rfl, rfl, .inl ⟨resetting, resetting⟩⟩
  · exact ⟨rfl, rfl, rfl, rfl, .inr ⟨other, .inl rfl⟩⟩
  · exact ⟨rfl, rfl, rfl, rfl, .inr ⟨other, .inr rfl⟩⟩

theorem Command.code_inj {c d : Command} (h : c.code = d.code) : c = d :=
  Option.some.inj ((Command.ofCode_code c).symm.trans ((congrArg Command.ofCode h).trans (Command.ofCode_code d)))

/-- A STOP is never in the Player's record of work. -/
theorem State.stop_notMem_playerWork (s : State) : Command.stop ∉ s.playerWork := by
  have edits (e : Edit) : e.command ≠ .stop := by cases e <;> exact nofun
  have backlog : Command.stop ∉ backlogWork s.qm.backlog := by
    intro mem
    obtain ⟨item, -, h⟩ := List.mem_map.1 mem
    exact edits _ h
  have flight (op : Operation) : Command.stop ∉ op.playerWork := by
    cases op with
    | edit item =>
      show Command.stop ∉ if item.source = .player then [item.edit.command] else []
      split
      · exact fun mem => edits _ (List.mem_singleton.1 mem).symm
      · exact List.not_mem_nil
    | takeNext => exact fun mem => nomatch List.mem_singleton.1 mem
    | notice n => exact List.not_mem_nil
  have inFlight : Command.stop ∉ s.qm.inFlight.elim [] (fun f => f.op.playerWork) := by
    cases s.qm.inFlight with
    | none => exact List.not_mem_nil
    | some f => exact flight f.op
  rw [State.playerWork_eq, QueueManager.playerWork, State.ownerWork]
  simp [inFlight, backlog]

/-- An outstanding STOP leaves no other work. -/
theorem State.playerLinked.nil_of_stop {s : State} (h : s.playerLinked) (waits : s.stopWaits = true) : s.playerWork = [] := by
  obtain none | ⟨c, one, outstanding⟩ := h
  · exact none
  · have stop : s.ports.player.condition = .outstanding Command.stop.code := by simpa [State.stopWaits] using waits
    obtain rfl := Command.code_inj (Condition.outstanding.inj (outstanding.symm.trans stop))
    exact absurd (one ▸ List.mem_singleton.2 rfl) s.stop_notMem_playerWork

theorem State.retireConfirmed_links {s : State} {rest : List Confirmation} (links : s.Links)
    (confirmed : s.qm.toStage = .retire :: rest) :
    (((((s.withQm { s.qm with toStage := rest }).withSc { s.sc with endTime := none }).showResult).raiseAll
      .songEnded).answerStop).Links := by
  obtain ⟨pending, count, before⟩ := State.stage_of_retired links.stage (QueueManager.onItsWay_toStage confirmed)
  have shown := State.showResult_stage ((s.withQm { s.qm with toStage := rest }).withSc { s.sc with endTime := none })
  have qm := State.showResult_qm ((s.withQm { s.qm with toStage := rest }).withSc { s.sc with endTime := none })
  generalize State.showResult _ = u at shown qm ⊢
  obtain ⟨pending', sl, ps, condition, after⟩ :
    u.sc.pendingStart = s.sc.pendingStart ∧ u.sl = s.sl ∧ u.ps = s.ps
      ∧ u.ports.player.condition = s.ports.player.condition
      ∧ ((s.sc.stage = .resetting ∧ u.sc.stage = .resetting)
        ∨ (s.sc.stage ≠ .resetting ∧ (u.sc.stage = .ready ∨ u.sc.stage = .result))) := shown
  replace qm : u.qm = { s.qm with toStage := rest } := qm
  have fits : u.stageLinked ∧ u.playerWork = s.playerWork := by
    have work := State.playerWork_congr (s := s) (t := u) (by rw [qm]; rfl) (by rw [sl]) (by rw [ps])
    obtain ⟨ending, way⟩ | ⟨resetting, way⟩ := before
    · obtain ⟨resetting, -⟩ | ⟨-, off⟩ := after
      · exact nomatch ending.symm.trans resetting
      · refine ⟨(State.stageLinked_offSong off).2 ?_, work ?_ ?_⟩
        · rw [qm]
          exact ⟨way, pending'.trans pending, count⟩
        · obtain h | h := off <;> simp [h, ending]
        · obtain h | h := off <;> simp [h, ending]
    · obtain ⟨-, stays⟩ | ⟨other, -⟩ := after
      · refine ⟨?_, work (by simp [stays, resetting]) (by simp [stays, resetting])⟩
        unfold State.stageLinked
        rw [stays, pending', qm]
        obtain way | way := way
        · exact ⟨pending, .inl ⟨way, (Nat.le_of_eq count).trans (Nat.zero_le 1)⟩⟩
        · exact ⟨pending, .inr (.inr ⟨.inr (.inr way), count⟩)⟩
      · exact absurd resetting other
  obtain ⟨stage, work⟩ := fits
  have slots : u.slotsLinked := by
    rw [State.slotsLinked_iff, qm, sl]
    exact (State.slotsLinked_iff s).1 links.slots
  have linked : (u.raiseAll .songEnded).Links :=
    State.Untouched.links (s := u) ⟨rfl, rfl, rfl, rfl, rfl⟩ (State.keepsOutstanding_of_eq rfl)
      ⟨stage, slots, State.playerLinked_of_perm links.work (.of_eq work) (State.keepsOutstanding_of_eq condition)⟩
  unfold State.answerStop
  split
  · next waits =>
    exact State.LinksBut.answer ⟨linked.stage, linked.slots, fun _ => linked.work.nil_of_stop waits,
      fun panel => absurd rfl panel⟩ _ _
  · exact linked

/-! ### The ports (chapter 9) -/

/-- A delivery leaves an OUTSTANDING command: its reply place is empty. -/
theorem State.clockByte_keepsOutstanding {s : State} (ports : s.portsConsistent) (b : Byte) :
    s.keepsOutstanding (s.clockByte b) := by
  obtain ⟨consistent, -, reads, -⟩ := ports
  obtain ⟨answered, -, filled, -⟩ := consistent .player
  intro code outstanding
  have none : s.ports.player.first ≠ some .reply := by
    intro first
    have reply : (s.port .player).condition = .answered := answered.1 (filled _ first)
    cases reply.symm.trans outstanding
  unfold State.clockByte
  split
  case h_5 place x at' =>
    have first := (reads _ _ at').1
    have other : place ≠ .reply := fun reply => none (reply ▸ first)
    show (if place = .reply then Condition.free else s.ports.player.condition) = _
    rw [if_neg other, outstanding]
  all_goals exact outstanding

theorem State.refuse_untouched (s : State) (src : Source) (code : Byte) (why : ReplyCode) :
    s.Untouched (s.refuse src code why) := ⟨by simp, by simp, by simp, by simp, by simp⟩

theorem Port.beginSending_condition (p : Port) : p.beginSending.condition = p.condition := by
  unfold Port.beginSending
  split
  · split <;> rfl
  · rfl

theorem State.refuse_condition (s : State) (src : Source) (code : Byte) (why : ReplyCode) :
    (s.refuse src code why).ports.player.condition = s.ports.player.condition := by
  obtain ⟨-, h⟩ | ⟨-, h⟩ := s.refuse_cases src code why <;> rw [h]
  cases src <;> rfl

theorem Handled.links {src : Source} {s t : State} (h : Handled src s t) (kept : s.qm.wellKept) (waits : s.qm.waitsInOrder)
    (hs : s.Links) : t.Links := by
  cases h with
  | nothing => exact hs
  | refused code why =>
    exact (s.refuse_untouched src code why).links (State.keepsOutstanding_of_eq (s.refuse_condition src code why)) hs
  | routed c t taken work =>
    obtain ⟨-, free, allowed⟩ := taken
    refine work.links ⟨by simpa using waits, by simpa using kept.distinct, allowed, fun player => ?_, ?_⟩
    · subst player
      rfl
    · have same : s.Untouched (s.route src c) := ⟨by simp, by simp, by simp, by simp, by simp⟩
      refine same.linksBut (fun panel => ?_) ⟨hs.stage, hs.slots, fun player => ?_, fun _ => hs.work⟩
      · exact State.keepsOutstanding_of_eq (congrArg Port.condition (s.port_route_other src .player c panel.symm))
      · subst player
        exact hs.work.nil_of_free free

/-! ### Every move -/

theorem Load.applyRecord_ticket (l : Load) (raw : List Byte) : (l.applyRecord raw).1.ticket = l.ticket := by
  unfold Load.applyRecord
  split
  · rfl
  · split
    · rfl
    · dsimp only
      split
      · rfl
      · split <;> rfl

theorem Load.applyFrame_ticket (raws : List (List Byte)) (l : Load) (accepted : Nat) :
    (l.applyFrame accepted raws).load.ticket = l.ticket := by
  induction raws generalizing l accepted with
  | nil => rfl
  | cons raw rest ih =>
    have same := l.applyRecord_ticket raw
    unfold Load.applyFrame
    split
    · next h => rw [h] at same; exact same
    · next h =>
      rw [h] at same
      split
      · exact same
      · exact (ih _ _).trans same

theorem State.loadDataEnd_links {s : State} {n : SlotName} {bytes : List Byte} {l : Load} {r : FrameResult} (links : s.Links)
    (inFlight : s.sl.inFlight = some ⟨n, bytes⟩) (loading : s.sl.get n = .loading l)
    (applied : l.applyFrame 0 (recordsOf bytes) = r) (a : Answer) :
    (((s.withSl { s.sl.set n (r.load.slotAfter r.ending) with inFlight := none }).loadDone r.ending).answer .player
      .loadData a).Links := by
  have set := ((State.slotsLinked_iff s).1 links.slots).setLoad (l' := r.load) loading
    (applied ▸ Load.applyFrame_ticket _ _ _) r.ending
  generalize ht : (s.withSl { s.sl.set n (r.load.slotAfter r.ending) with inFlight := none }).loadDone r.ending = t
  have qm : t.qm = s.qm := by rw [← ht]; simp [State.loadDone]
  have sc : t.sc = s.sc := by rw [← ht]; simp [State.loadDone]
  have ps : t.ps = s.ps := by rw [← ht]; simp [State.loadDone]
  have sl : t.sl = { s.sl.set n (r.load.slotAfter r.ending) with inFlight := none } := by rw [← ht]; simp [State.loadDone]
  have work : s.playerWork.Perm (.loadData :: t.playerWork) :=
    State.playerWork_loads (by rw [qm]) (by rw [ps]) (by rw [sc]) (by rw [sl]) (by rw [inFlight]; rfl)
  have none := links.work.nil_of_cons work
  obtain ⟨-, -, -, -, starts, -⟩ := State.owners_of_nil none
  refine State.LinksBut.answer ⟨?_, ?_, fun _ => none, fun panel => absurd rfl panel⟩ _ _
  · exact State.stageLinked_congr links.stage (by rw [sc]) (by rw [sc]) (by rw [qm]) (by rw [qm])
      fun starting => absurd (sc ▸ starting) starts
  · rw [State.slotsLinked_iff, qm, sl]
    exact set.mono (.refl _) (fun _ h => h) fun m => by cases m <;> rfl

theorem State.saveEnd_links {s : State} {copy : Profile} (links : s.Links) (saving : s.ps.saving = some copy) (matched : Bool) :
    (s.endSave matched).Links := by
  have ends (q : ProfileStore) (saved : q.saving = none) (a : Answer) :
      ((s.withPs q).answer .player .profileSave a).Links := by
    have work : s.playerWork.Perm (.profileSave :: (s.withPs q).playerWork) :=
      State.playerWork_saves rfl rfl rfl saved (by rw [saving]; rfl)
    have none := links.work.nil_of_cons work
    exact State.LinksBut.answer (s := s.withPs q)
      ⟨State.stageLinked_congr links.stage rfl rfl rfl rfl fun _ _ hk => hk, links.slots, fun _ => none,
        fun panel => absurd rfl panel⟩ _ _
  unfold State.endSave
  rw [saving]
  dsimp only
  split <;> exact ends _ rfl _

theorem State.endResult_links {s : State} (links : s.Links) (result : s.sc.stage = .result) : s.endResult.Links := by
  have stage := (State.stageLinked_offSong (.inr result)).1 links.stage
  refine ⟨(State.stageLinked_offSong (.inl rfl)).2 stage, links.slots, State.playerLinked_of_perm links.work (.of_eq ?_) ?_⟩
  · exact State.playerWork_congr (t := s.endResult) rfl rfl rfl (iff_of_false nofun (by rw [result]; exact nofun))
      (iff_of_false nofun (by rw [result]; exact nofun))
  · exact State.keepsOutstanding_of_eq rfl

theorem StageController.advance_stage (c : StageController) :
    c.advance.stage = c.stage ∧ c.advance.pendingStart = c.pendingStart := by
  obtain ⟨_, h⟩ | ⟨-, _, h⟩ | ⟨_, -, h⟩ | ⟨_, -, -, h⟩ := StageController.advance_cases c <;> rw [h] <;> exact ⟨rfl, rfl⟩

theorem State.frameStart_untouched (s : State) (size : Option (Nat × Nat)) :
    s.Untouched (s.frameStart size) ∧ (s.frameStart size).ports.player.condition = s.ports.player.condition := by
  obtain ⟨-, -, port⟩ := s.frameStart_ports size
  have same : s.Untouched (s.frameStart size) :=
    ⟨by simp [State.frameStart], by simp [State.frameStart], by simp [State.frameStart], by simp [State.frameStart],
      by rw [s.frameStart_ps size]⟩
  have player := congrArg Port.condition (port .player)
  exact ⟨same, player⟩

theorem State.micClip_condition (s : State) (l : Lane) (all : List StereoSample) :
    (s.micClip l all).ports.player.condition = s.ports.player.condition := by
  unfold State.micClip
  split <;> rfl

theorem State.sample_untouched (s : State) (x : StereoSample) :
    s.Untouched (s.sample x) ∧ (s.sample x).ports.player.condition = s.ports.player.condition := by
  have same : s.Untouched (s.sample x) := by constructor <;> simp [State.sample, State.micClip]
  refine ⟨same, ?_⟩
  unfold State.sample
  dsimp only
  split
  · rfl
  · exact (State.micClip_condition _ _ _).trans (State.micClip_condition _ _ _)

theorem Move.links {i : Instr} {s t : State} (h : Move i s t) (begins : i ≠ .hardwareReset) (ends : i ≠ .endOfReset)
    (ports : s.portsConsistent) (kept : s.qm.wellKept) (order : s.qm.inOrder) (waits : s.qm.waitsInOrder) (hs : s.Links) :
    t.Links := by
  have quiet {t : State} (same : s.Untouched t) (condition : t.ports.player.condition = s.ports.player.condition) : t.Links :=
    same.links (State.keepsOutstanding_of_eq condition) hs
  cases h with
  | handled src t h => exact h.links kept waits hs
  | receive panel r => exact quiet ⟨by rfl, by rfl, by rfl, by rfl, by rfl⟩ (by cases panel <;> rfl)
  | send panel n => exact quiet ⟨by rfl, by rfl, by rfl, by rfl, by rfl⟩ (by cases panel <;> rfl)
  | shiftOut | selectEnds => exact quiet ⟨rfl, rfl, rfl, rfl, rfl⟩ rfl
  | selectFalls =>
    unfold State.selectFalls
    split <;> exact quiet ⟨rfl, rfl, rfl, rfl, rfl⟩ rfl
  | clockByte b =>
    have keeps := State.clockByte_keepsOutstanding ports b
    obtain ⟨p, h⟩ := s.clockByte_withPorts b
    rw [h] at keeps ⊢
    exact State.Untouched.links (s := s) (t := s.withPorts p) ⟨rfl, rfl, rfl, rfl, rfl⟩ keeps hs
  | editEnd item rights threshold row inFlight => exact State.editEnd_links hs kept.distinct inFlight rfl
  | takeNextEnd rights threshold row inFlight => exact State.takeNextEnd_links hs kept.distinct inFlight
  | startEnd e row notice cued => exact State.startEnd_links hs kept order notice cued
  | startLost ticket row notice => exact State.startLost_links hs notice
  | retireEnd kind time lanes row notice => exact State.retireEnd_links hs kept notice
  | resetEnd time row notice => exact State.resetEnd_links hs kept notice
  | loadDataEnd n bytes l r a inFlight loading applied => exact State.loadDataEnd_links hs inFlight loading applied a
  | startConfirmed key tempo duet rest p a confirmed => exact State.startConfirmed_links hs confirmed a
  | cueLost rest p lost => exact State.cueLost_links hs lost _
  | retireConfirmed rest confirmed => exact State.retireConfirmed_links hs confirmed
  | resetConfirmed rest confirmed => exact State.resetConfirmed_links hs confirmed _
  | finalise kind song =>
    obtain ⟨stage, slots, work⟩ := State.finalise_links waits song hs.stage hs.slots kind
    exact ⟨stage, slots, State.playerLinked_of_perm hs.work work (State.keepsOutstanding_of_eq (by simp [State.finalise]))⟩
  | endResult result => exact State.endResult_links hs result
  | saveEnd copy matched saving => exact State.saveEnd_links hs saving matched
  | resetBegins row => exact absurd row begins
  | resetEnds row => exact absurd row ends
  | advance =>
    obtain ⟨stage, pending⟩ := s.sc.advance_stage
    exact quiet ⟨stage, pending, rfl, rfl, rfl⟩ rfl
  | hold | measure | raise | received => exact quiet ⟨rfl, rfl, rfl, rfl, rfl⟩ rfl
  | frameStart size =>
    obtain ⟨same, condition⟩ := s.frameStart_untouched size
    exact quiet same condition
  | sample x =>
    obtain ⟨same, condition⟩ := s.sample_untouched x
    exact quiet same condition

/-- The premises of the linking statement and its conclusion, together. -/
structure State.Tied (s : State) : Prop where
  ports : s.portsConsistent
  kept : s.qm.wellKept
  order : s.qm.inOrder
  waits : s.qm.waitsInOrder
  linked : s.linked

/-- Every operation on the applied queue keeps it well kept and in order. -/
theorem QueueSteps.inOrder {q r : QueueManager} (h : QueueSteps q r) (kept : q.wellKept) (order : q.inOrder) : r.inOrder := by
  induction h with
  | refl => exact order
  | tail before last order => exact last.inOrder (QueueSteps.wellKept before kept) order

theorem QueueManager.sameApplied.keeps {q r : QueueManager} (same : q.sameApplied r) (kept : r.wellKept) (order : r.inOrder) :
    q.wellKept ∧ q.inOrder := by
  obtain ⟨queue, -, history, counter⟩ := same
  unfold QueueManager.wellKept QueueManager.inOrder
  rw [queue, history, counter]
  exact ⟨kept, order⟩

theorem Move.queue {i : Instr} {s t : State} (h : Move i s t) (kept : s.qm.wellKept) (order : s.qm.inOrder) :
    t.qm.wellKept ∧ t.qm.inOrder := by
  obtain same | ⟨-, q, op, same⟩ | ⟨-, reset⟩ := h.applied
  · exact same.keeps kept order
  · exact same.keeps (op.steps.wellKept kept) (op.steps.inOrder kept order)
  · rw [reset]
    exact ⟨QueueManager.wellKept_afterReset, QueueManager.inOrder_afterReset⟩

theorem Move.tied {i : Instr} {s t : State} (h : Move i s t) (begins : i ≠ .hardwareReset) (ends : i ≠ .endOfReset)
    (hs : s.Tied) : t.Tied := by
  obtain ⟨ports, kept, order, waits, linked⟩ := hs
  obtain ⟨kept', order'⟩ := h.queue kept order
  refine ⟨h.portsConsistent ports, kept', order', h.waitsInOrder waits, fun outside => ?_⟩
  obtain ⟨stage, work, slots⟩ := linked ((h.inReset begins ends).symm.trans outside)
  obtain ⟨stage, slots, work⟩ := h.links begins ends ports kept order waits ⟨stage, slots, work⟩
  exact ⟨stage, work, slots⟩

/-- The two reset events apart, every move of a row keeps the parts together; during reset nothing is asked of them. -/
theorem exec_linked {i : Instr} {s t : State} (hs : s.Tied) (run : exec i s = .next t) : t.linked := by
  by_cases begins : i = .hardwareReset
  · subst begins
    obtain rfl := Host.Outcome.next.inj run
    exact nofun
  by_cases ends : i = .endOfReset
  · subst ends
    obtain rfl := Host.Outcome.next.inj run
    split
    · exact State.linked_atEndOfReset s.ps.nonvolatile
    · exact hs.linked
  · have tied : t.Tied := exec_keeps (P := State.Tied) (fun _ _ move kept => move.tied begins ends kept) run hs
    exact tied.linked

theorem step_linked {s t : State} (hs : s.Tied) (run : step s = .next t) : t.linked := by
  unfold step at run
  split at run
  · obtain rfl := Host.Outcome.next.inj run
    exact hs.linked
  · next c rest _ =>
    obtain ⟨ports, kept, order, waits, linked⟩ := hs
    exact exec_linked (s := s.withPending rest) ⟨ports, kept, order, waits, linked⟩ run

/-- Settles O8: the order of the queue, of what waits, and what ties the queue, the slots and the stage together, each kept by
every step. -/
theorem queueKeepsItsOrder : Obligations.QueueKeepsItsOrder := by
  unfold Obligations.QueueKeepsItsOrder
  exact ⟨fun _ _ kept order run => step_inOrder kept order run, fun _ _ waits run => step_waitsInOrder waits run,
    fun _ _ ports kept order waits linked run => step_linked ⟨ports, kept, order, waits, linked⟩ run⟩

end Sys2Proof.Machine
end
